-- ==== Sys2Proof/Word.lean ====
section
/-! DEFINITION. The bit-vector widths of the block's ports, registers and bus (00_scope.md R5, R6). -/

namespace Sys2Proof

/-- One byte on the bus, and one sensor register offset (20_memory.md R50, R53). -/
abbrev Byte := BitVec 8

/-- One sensor register, one raw sample, one configuration word (00_scope.md R5). -/
abbrev Half := BitVec 16

/-- A command word or an operand port (30_encoding.md R70). -/
abbrev Word := BitVec 32

/-- The result register (10_state.md R27). -/
abbrev Result := BitVec 64

/-- One 3-bit configuration code (40_config_packer.md R104): all eight codes are legal. -/
abbrev Code := BitVec 3

end Sys2Proof
end

