-- ==== Sys2Proof/Syntax.lean ====
section
/-! DEFINITION. The command set: one constructor per row of spec/opcode_table.json (30_encoding.md R71, R72),
and the names of the sensor's registers (20_memory.md R51). -/

namespace Sys2Proof

/-- The nine sensor registers, in the order of 20_memory.md R51. -/
inductive SensorReg where
  | configuration | shuntVoltage | busVoltage | power | current | calibration
  | maskEnable | alertLimit | manufacturerId
  deriving DecidableEq, Repr

/-- The column "signedness of contents" of 20_memory.md R51. -/
inductive Signedness where
  | signed | unsigned
  /-- Bit fields, or contents the source does not describe: no number. -/
  | none
  deriving DecidableEq, Repr

/-- The fifteen commands with the operands their word carries. RSHUNT and IMAX of the F-CAL commands stand on
the ports OPA and OPB, which play no part in decoding (30_encoding.md R75), so they are read by the meaning. -/
inductive Instr where
  | cfgPack (avg vbusct vshct mode : Code)
  | cfgApply (avg vbusct vshct mode : Code)
  | calDerive
  | calibrate
  | decBus (raw : Half)
  | decShunt (raw : Half)
  | decCurrent (raw : Half)
  | decPower (raw : Half)
  | rdBus
  | rdShunt
  | rdCurrent
  | rdPower
  | rdRaw (off : Byte)
  | reset
  | ping
  deriving DecidableEq, Repr

end Sys2Proof
end

