-- ==== Sys2Proof/Machine/RegisterMap.lean ====
section
/-! DEFINITION. The register map of the sensor (20_memory.md R51). -/

namespace Sys2Proof

/-- The offset of a sensor register (20_memory.md R51, offset column). -/
def SensorReg.offset : SensorReg → Byte
  | .configuration => 0x00#8
  | .shuntVoltage => 0x01#8
  | .busVoltage => 0x02#8
  | .power => 0x03#8
  | .current => 0x04#8
  | .calibration => 0x05#8
  | .maskEnable => 0x06#8
  | .alertLimit => 0x07#8
  | .manufacturerId => 0xFF#8

/-- How the contents of a sensor register are read as a number (20_memory.md R51, signedness column;
42_decoder.md R150). -/
def SensorReg.signedness : SensorReg → Signedness
  | .shuntVoltage | .current => .signed
  | .busVoltage | .power | .calibration => .unsigned
  | .configuration | .maskEnable | .alertLimit | .manufacturerId => .none

/-- All sensor registers, in the order of the map. -/
def sensorRegs : List SensorReg :=
  [.configuration, .shuntVoltage, .busVoltage, .power, .current, .calibration, .maskEnable, .alertLimit,
   .manufacturerId]

/-- The register at an offset; none outside the map (20_memory.md R52). -/
def sensorRegAt (off : Byte) : Option SensorReg :=
  sensorRegs.find? fun r => r.offset == off

/-- OFF is one of the nine offsets of the map (30_encoding.md R73). -/
def offsetInMap (off : Byte) : Bool :=
  (sensorRegAt off).isSome

end Sys2Proof
end

