-- ==== Sys2Proof/WellFormed.lean ====
section
/-! DEFINITION. Which terms of `Instr` are commands of the block. -/

namespace Sys2Proof

/-- The one condition the operand types do not carry: the offset of RD_RAW is in the register map
(30_encoding.md R72, R73). Every code, sample and configuration field of its width is legal
(40_config_packer.md R104; 30_encoding.md R76). -/
def Instr.wellFormed : Instr → Bool
  | .rdRaw off => offsetInMap off
  | .cfgPack _ _ _ _ | .cfgApply _ _ _ _ | .calDerive | .calibrate | .decBus _ | .decShunt _
  | .decCurrent _ | .decPower _ | .rdBus | .rdShunt | .rdCurrent | .rdPower | .reset | .ping => true

end Sys2Proof
end

