-- ==== Sys2Proof/Decode.lean ====
section
/-! DEFINITION. Command words: the decoder, total on every 32-bit word (30_encoding.md R70 to R77), and the
encoder. -/

namespace Sys2Proof

/-- Why a word is illegal: the four cases of 30_encoding.md R73, by name. -/
inductive DecodeReject where
  /-- OP = 0x0 (also R74). -/
  | reservedOp
  /-- RSV is not 0. -/
  | reservedField
  /-- The format's Z4, Z8 or Z16 field is not 0. -/
  | zeroField
  /-- RD_RAW with an offset that is not in the map. -/
  | offsetNotInMap
  deriving DecidableEq, Repr

/-- OP = CMD[31:28] (30_encoding.md R70). -/
def opField (w : Word) : BitVec 4 := w.extractLsb' 28 4

/-- RSV = CMD[27:16] (30_encoding.md R70). -/
def rsvField (w : Word) : BitVec 12 := w.extractLsb' 16 12

/-- IMM = CMD[15:0] (30_encoding.md R70); it is RAW in F-RAW and Z16 in F-CAL and F-NONE. -/
def immField (w : Word) : Half := w.extractLsb' 0 16

/-- Z4 = IMM[15:12] of F-CFG (30_encoding.md R71). -/
def z4Field (w : Word) : BitVec 4 := w.extractLsb' 12 4

/-- AVG = IMM[11:9] (30_encoding.md R71). -/
def avgField (w : Word) : Code := w.extractLsb' 9 3

/-- VBUSCT = IMM[8:6] (30_encoding.md R71). -/
def vbusctField (w : Word) : Code := w.extractLsb' 6 3

/-- VSHCT = IMM[5:3] (30_encoding.md R71). -/
def vshctField (w : Word) : Code := w.extractLsb' 3 3

/-- MODE = IMM[2:0] (30_encoding.md R71). -/
def modeField (w : Word) : Code := w.extractLsb' 0 3

/-- Z8 = IMM[15:8] of F-REG (30_encoding.md R71). -/
def z8Field (w : Word) : Byte := w.extractLsb' 8 8

/-- OFF = IMM[7:0] of F-REG (30_encoding.md R71). -/
def offField (w : Word) : Byte := w.extractLsb' 0 8

/-- Format F-CFG (30_encoding.md R71, R76). -/
def decodeCfg (mk : Code → Code → Code → Code → Instr) (w : Word) : Except DecodeReject Instr :=
  if z4Field w = 0#4 then .ok (mk (avgField w) (vbusctField w) (vshctField w) (modeField w))
  else .error .zeroField

/-- Format F-RAW (30_encoding.md R71, R76). -/
def decodeRaw (mk : Half → Instr) (w : Word) : Except DecodeReject Instr :=
  .ok (mk (immField w))

/-- Format F-REG, with the check of OFF (30_encoding.md R71, R73). -/
def decodeReg (mk : Byte → Instr) (w : Word) : Except DecodeReject Instr :=
  if z8Field w = 0#8 then
    if offsetInMap (offField w) then .ok (mk (offField w)) else .error .offsetNotInMap
  else .error .zeroField

/-- Formats F-NONE and F-CAL: the word carries no operand (30_encoding.md R71). -/
def decodeBare (i : Instr) (w : Word) : Except DecodeReject Instr :=
  if immField w = 0#16 then .ok i else .error .zeroField

/-- The format and command that OP selects, after the check of RSV (30_encoding.md R72). -/
def decodeOp (w : Word) : Except DecodeReject Instr :=
  match opField w with
  | 0x1#4 => decodeCfg .cfgPack w
  | 0x2#4 => decodeCfg .cfgApply w
  | 0x3#4 => decodeBare .calDerive w
  | 0x4#4 => decodeBare .calibrate w
  | 0x5#4 => decodeRaw .decBus w
  | 0x6#4 => decodeRaw .decShunt w
  | 0x7#4 => decodeRaw .decCurrent w
  | 0x8#4 => decodeRaw .decPower w
  | 0x9#4 => decodeBare .rdBus w
  | 0xA#4 => decodeBare .rdShunt w
  | 0xB#4 => decodeBare .rdCurrent w
  | 0xC#4 => decodeBare .rdPower w
  | 0xD#4 => decodeReg .rdRaw w
  | 0xE#4 => decodeBare .reset w
  | 0xF#4 => decodeBare .ping w
  | _ => .error .reservedOp

/-- The decoder: every word is one command with its fields, or is rejected by name (30_encoding.md R73, R75). -/
def decode (w : Word) : Except DecodeReject Instr :=
  if opField w = 0#4 then .error .reservedOp
  else if rsvField w = 0#12 then decodeOp w
  else .error .reservedField

/-- A word from its OP and IMM, with RSV = 0 (30_encoding.md R70). -/
def commandWord (op : BitVec 4) (imm : Half) : Word := (op.zeroExtend 32 <<< 28) ||| imm.zeroExtend 32

/-- IMM of F-CFG (30_encoding.md R71). -/
def cfgImm (avg vbusct vshct mode : Code) : Half :=
  (avg.zeroExtend 16 <<< 9) ||| (vbusct.zeroExtend 16 <<< 6) ||| (vshct.zeroExtend 16 <<< 3)
    ||| mode.zeroExtend 16

/-- IMM of F-REG (30_encoding.md R71). -/
def regImm (off : Byte) : Half := off.zeroExtend 16

/-- The encoder, from the opcode map of 30_encoding.md R72 and the formats of R71. -/
def encode : Instr → Word
  | .cfgPack a b v m => commandWord 0x1#4 (cfgImm a b v m)
  | .cfgApply a b v m => commandWord 0x2#4 (cfgImm a b v m)
  | .calDerive => commandWord 0x3#4 0#16
  | .calibrate => commandWord 0x4#4 0#16
  | .decBus raw => commandWord 0x5#4 raw
  | .decShunt raw => commandWord 0x6#4 raw
  | .decCurrent raw => commandWord 0x7#4 raw
  | .decPower raw => commandWord 0x8#4 raw
  | .rdBus => commandWord 0x9#4 0#16
  | .rdShunt => commandWord 0xA#4 0#16
  | .rdCurrent => commandWord 0xB#4 0#16
  | .rdPower => commandWord 0xC#4 0#16
  | .rdRaw off => commandWord 0xD#4 (regImm off)
  | .reset => commandWord 0xE#4 0#16
  | .ping => commandWord 0xF#4 0#16

/-- The match and mask columns of the opcode map (30_encoding.md R72), by command. -/
def opcodeRow : Instr → Word × Word
  | .cfgPack _ _ _ _ => (0x10000000#32, 0xFFFFF000#32)
  | .cfgApply _ _ _ _ => (0x20000000#32, 0xFFFFF000#32)
  | .calDerive => (0x30000000#32, 0xFFFFFFFF#32)
  | .calibrate => (0x40000000#32, 0xFFFFFFFF#32)
  | .decBus _ => (0x50000000#32, 0xFFFF0000#32)
  | .decShunt _ => (0x60000000#32, 0xFFFF0000#32)
  | .decCurrent _ => (0x70000000#32, 0xFFFF0000#32)
  | .decPower _ => (0x80000000#32, 0xFFFF0000#32)
  | .rdBus => (0x90000000#32, 0xFFFFFFFF#32)
  | .rdShunt => (0xA0000000#32, 0xFFFFFFFF#32)
  | .rdCurrent => (0xB0000000#32, 0xFFFFFFFF#32)
  | .rdPower => (0xC0000000#32, 0xFFFFFFFF#32)
  | .rdRaw _ => (0xD0000000#32, 0xFFFFFF00#32)
  | .reset => (0xE0000000#32, 0xFFFFFFFF#32)
  | .ping => (0xF0000000#32, 0xFFFFFFFF#32)

/-- The word of a command whose bits are `w`, numbered as spec/opcode_table.json numbers them, with every bit
from `nbits` up 0. A command is one 32-bit word on CMD (30_encoding.md R70), so it has no byte order. -/
def tableWord (nbits w : Nat) : Word := BitVec.ofNat 32 (w % 2 ^ nbits)

/-- The command the decoder reads from a word given as the opcode table numbers it. -/
def decodeTableWord (nbits w : Nat) : Option Instr :=
  match decode (tableWord nbits w) with
  | .ok i => some i
  | .error _ => none

end Sys2Proof
end

