-- ==== Sys2Proof/Machine/Constants.lean ====
section
/-! DEFINITION. The numbers the source fixes, in the block's units (00_scope.md R5, R11; 20_memory.md R68). -/

namespace Sys2Proof.Machine

/-- The current-LSB quantum times the current scale denominator: 32767 × 100 µA = 3_276_700 µA
(00_scope.md R5; 41_calibration.md R122). -/
def currentScale : Nat := 32767 * 100

/-- The power-LSB is 25 current-LSBs (00_scope.md R5; 41_calibration.md R123). -/
def powerRatio : Nat := 25

/-- 0.00512 in units of 100 µA times 1 µΩ, that is 1e-10 V (00_scope.md R5; 41_calibration.md R124). -/
def calNumerator : Nat := 51200000

/-- The bus-voltage LSB, 1.25 mV in µV (00_scope.md R5; 42_decoder.md R151). -/
def busLsb : Int := 1250

/-- The shunt-voltage LSB, 2.5 µV in nV (00_scope.md R5; 42_decoder.md R152). -/
def shuntLsb : Int := 2500

/-- One unit of CUR_LSB in µA, and of PWR_LSB in µW (00_scope.md R11). -/
def lsbUnit : Int := 100

/-- The identity constant at offset 0xFF (20_memory.md R68). -/
def identityWord : Half := 0x2260#16

/-- The reset word written to offset 0x00 (20_memory.md R68). -/
def resetWord : Half := 0x8000#16

end Sys2Proof.Machine
end

