-- ==== Sys2Proof/Machine/BusTypes.lean ====
section
/-! DEFINITION. What crosses the bus-master port: requests, answers and the record of a transaction
(20_memory.md R53 to R61). -/

namespace Sys2Proof.Machine

/-- The two transaction primitives the block consumes: `write(address, bytes)` (20_memory.md R53) and
`writeThenRead(address, writeBytes, readLength)` (20_memory.md R54). -/
inductive BusRequest where
  | write (addr : BitVec 7) (bytes : List Byte)
  | writeThenRead (addr : BitVec 7) (bytes : List Byte) (readLength : Nat)
  deriving DecidableEq, Repr

/-- What the bus reports of one transaction (20_memory.md R56; 60_exceptions.md R211 names the causes). -/
inductive BusAnswer where
  /-- The bus reports a NACK. -/
  | nack
  /-- No device answers at the address. -/
  | absent
  /-- The transfer ended with `acked` written bytes acknowledged and the bytes `returned` read, in the
  order they arrived. Either may be short. -/
  | transfer (acked : Nat) (returned : List Byte)
  deriving DecidableEq, Repr, Inhabited

/-- One transaction the environment has seen, with its answer (20_memory.md R62). -/
structure BusTransaction where
  request : BusRequest
  answer : BusAnswer
  deriving DecidableEq, Repr

end Sys2Proof.Machine
end

