-- ==== Sys2Proof/Config.lean ====
section
/-! DEFINITION. The open parameters of the spec and the values it leaves unspecified, as constants without a
body: nothing can be proved of their values, so a claim holds for every one (00_scope.md R5, R12). -/

namespace Sys2Proof

/-- `P_DEV_ADDR`: the sensor's 7-bit bus address, fixed for the block's lifetime (00_scope.md R5).
Log entry 2. -/
opaque Config.pDevAddr : BitVec 7

/-- `P_BUS`: the environment's answer to a transaction, which may depend on the whole history of earlier
transactions, oldest first (20_memory.md R61). Log entry 1. -/
opaque Config.pBus : List Machine.BusTransaction → Machine.BusRequest → Machine.BusAnswer

/-- CUR_LSB after the n-th block reset: unspecified (10_state.md R39). DESIGN CHOICE, log entry 3. -/
opaque Config.unspecifiedCurLsb : Nat → Half

/-- PWR_LSB after the n-th block reset: unspecified (10_state.md R39). DESIGN CHOICE, log entry 3. -/
opaque Config.unspecifiedPwrLsb : Nat → Half

/-- CAL_VAL after the n-th block reset: unspecified (10_state.md R39). DESIGN CHOICE, log entry 3. -/
opaque Config.unspecifiedCalVal : Nat → Half

/-- RES after the n-th block reset: unspecified (10_state.md R39). DESIGN CHOICE, log entry 3. -/
opaque Config.unspecifiedRes : Nat → Result

end Sys2Proof
end

