-- ==== Sys2Proof/Machine/State.lean ====
section
/-! DEFINITION. The state of the block, as plain data, and its value after a block reset
(10_state.md; 70_reset_and_hazards.md R240). -/

namespace Sys2Proof.Machine

/-- The register STATE (10_state.md R22): 0 UNINIT, 1 CONFIGURED, 2 CALIBRATED. The rule lets a model use
three values; the value 3 is never written. Log entry 9. -/
inductive Facade where
  | uninit | configured | calibrated
  deriving DecidableEq, Repr

/-- The values of the register ERR (10_state.md R29; 60_exceptions.md R211). Code 7 is never written.
Log entry 9. -/
inductive ErrKind where
  | none | transport | calPrecondition | calVerifyMismatch | illegalCmd | notConfigured | notCalibrated
  deriving DecidableEq, Repr

/-- What the host can do to the block (10_state.md R33, R37; 70_reset_and_hazards.md R240). Log entry 5. -/
inductive HostAction where
  /-- Drive CMD, OPA and OPB and raise CMD_VALID. -/
  | present (cmd opa opb : Word)
  /-- Lower CMD_VALID. -/
  | withdraw
  /-- A block reset. -/
  | blockReset
  deriving DecidableEq, Repr

/-- The reasons the machine could stop with a fault: none. The block has no traps and no error makes it stuck
(60_exceptions.md R210, R214); every error is a code in ERR. Log entry 16. -/
inductive Fault where
  deriving DecidableEq, Repr

/-- The reasons a step could be refused. -/
inductive Refusal where
  /-- No meaning written yet for a command: raised by an arm of `exec` only, and by none of them now. Safe. -/
  | notModelled (mnemonic : String)
  deriving DecidableEq, Repr

/-- Everything the spec gives the block, and what the model keeps of its host and of its bus. -/
structure State where
  /-- STATE (10_state.md R22). -/
  facade : Facade
  /-- CUR_LSB, in units of 100 µA (10_state.md R23). -/
  curLsb : Half
  /-- PWR_LSB, in units of 100 µW (10_state.md R24). -/
  pwrLsb : Half
  /-- CAL_VAL (10_state.md R25). -/
  calVal : Half
  /-- RES (10_state.md R27). -/
  res : Result
  /-- RES_VALID (10_state.md R28). -/
  resValid : Bool
  /-- ERR (10_state.md R29). -/
  err : ErrKind
  /-- CALZ (10_state.md R30). -/
  calz : Bool
  /-- CALOVF (10_state.md R30). -/
  calovf : Bool
  /-- Input port CMD (10_state.md R33). -/
  cmd : Word
  /-- Input port OPA, µΩ (10_state.md R33). -/
  opa : Word
  /-- Input port OPB, µA (10_state.md R33). -/
  opb : Word
  /-- Input port CMD_VALID (10_state.md R33). -/
  cmdValid : Bool
  /-- Output port DONE (10_state.md R34, R37). -/
  done : Bool
  /-- The model's own: what the host does next, first action first. Log entry 5. -/
  hostActions : List HostAction
  /-- The history of transactions, oldest first, that P_BUS may depend on (20_memory.md R61, R62). -/
  busLog : List BusTransaction
  /-- The model's own: answers the environment has already chosen for the next transactions; when none is left
  P_BUS answers. Log entry 1. -/
  busScript : List BusAnswer
  /-- The model's own: the number of block resets since the first, by which the unspecified values of a reset
  are drawn. Log entry 3. -/
  resets : Nat
  deriving DecidableEq, Repr

/-- The block right after a block reset (10_state.md R39; 70_reset_and_hazards.md R240), with no command
presented and no transaction made. The four unspecified registers hold free values (log entry 3); the input
ports are low (log entry 4). -/
def State.reset : State where
  facade := .uninit
  curLsb := Config.unspecifiedCurLsb 0
  pwrLsb := Config.unspecifiedPwrLsb 0
  calVal := Config.unspecifiedCalVal 0
  res := Config.unspecifiedRes 0
  resValid := false
  err := .none
  calz := false
  calovf := false
  cmd := 0#32
  opa := 0#32
  opb := 0#32
  cmdValid := false
  done := false
  hostActions := []
  busLog := []
  busScript := []
  resets := 0

end Sys2Proof.Machine
end

