-- ==== Sys2Proof/Machine/Ops.lean ====
section
/-! DEFINITION. The shared operations of the commands: the two outcomes of a command, bus transactions, the
state gates, and the block reset. -/

namespace Sys2Proof.Machine

/-! ## The outcome of a command -/

/-- A command succeeds with a result: RES <- v, RES_VALID <- 1, ERR <- NONE (10_state.md R27, R28, R29). -/
def State.succeed (s : State) (v : Result) : State :=
  { s with res := v, resValid := true, err := .none }

/-- `raise E` (00_scope.md R10): ERR <- code(E), RES_VALID <- 0, RES unchanged, and the writes already made
stand (60_exceptions.md R212). It saves nothing else and nothing needs to return from it (R210). -/
def State.raise (s : State) (e : ErrKind) : State :=
  { s with err := e, resValid := false }

/-- An illegal word: ERR = 4 and RES_VALID = 0 and nothing else (60_exceptions.md R221). -/
def State.illegal (s : State) : State := s.raise .illegalCmd

/-! ## Bus transactions -/

/-- The request of `MemWrite(off, 2, v)`: off, then v[15:8], then v[7:0] (20_memory.md R53, R55). -/
def writeRequest (off : Byte) (v : Half) : BusRequest :=
  .write Config.pDevAddr [off, v.extractLsb' 8 8, v.extractLsb' 0 8]

/-- The request of `MemRead(off, 2)`: write off, then read two bytes (20_memory.md R54). -/
def readRequest (off : Byte) : BusRequest :=
  .writeThenRead Config.pDevAddr [off] 2

/-- `MemWrite` yields Ok when all three written bytes are acknowledged (20_memory.md R56). -/
def writeOk : BusAnswer → Bool
  | .nack => false
  | .absent => false
  | .transfer acked _ => decide (3 ≤ acked)

/-- The value of two bytes in the order they arrive: `b0 × 256 + b1`, the first the high byte
(20_memory.md R54, R55). -/
def bytesValue (b0 b1 : Byte) : Half := BitVec.ofNat 16 (b0.toNat * 256 + b1.toNat)

/-- `MemRead` yields the value of the first two bytes returned, when the written byte is
acknowledged and two bytes return (20_memory.md R54, R56); otherwise Fail. Log entry 7. -/
def readValue : BusAnswer → Option Half
  | .transfer acked (b0 :: b1 :: _) => if 1 ≤ acked then some (bytesValue b0 b1) else none
  | .transfer _ _ => none
  | .nack => none
  | .absent => none

/-- The environment's answer to the next transaction: the answer already chosen, or P_BUS applied to the
history (20_memory.md R61). Log entry 1. -/
def State.answer (s : State) (q : BusRequest) : BusAnswer :=
  match s.busScript with
  | a :: _ => a
  | [] => Config.pBus s.busLog q

/-- Exactly one bus transaction (20_memory.md R57): it joins the history after all earlier ones (R62). -/
def State.transact (s : State) (q : BusRequest) : State :=
  { s with busLog := s.busLog ++ [⟨q, s.answer q⟩], busScript := s.busScript.tail }

/-- `MemWrite(off, 2, v)` (00_scope.md R9): true for Ok, and the state after the transaction. -/
def State.memWrite (s : State) (off : Byte) (v : Half) : Bool × State :=
  (writeOk (s.answer (writeRequest off v)), s.transact (writeRequest off v))

/-- `MemRead(off, 2)` (00_scope.md R9): the value, or none for Fail, and the state after the transaction. -/
def State.memRead (s : State) (off : Byte) : Option Half × State :=
  (readValue (s.answer (readRequest off)), s.transact (readRequest off))

/-- Read one register and finish with a result made of its value; a Fail raises TRANSPORT
(20_memory.md R56; the shape of 42_decoder.md R159 to R163). -/
def State.readResult (s : State) (r : SensorReg) (f : Half → Result) : State :=
  match s.memRead r.offset with
  | (none, t) => t.raise .transport
  | (some v, t) => t.succeed (f v)

/-! ## The state gates (60_exceptions.md R211, R213) -/

/-- `if STATE == UNINIT: raise NOT_CONFIGURED` before the rest of a command. -/
def State.whenConfigured (s : State) (rest : State) : State :=
  if s.facade = .uninit then s.raise .notConfigured else rest

/-- `if STATE != CALIBRATED: raise NOT_CALIBRATED` before the rest of a command. -/
def State.whenCalibrated (s : State) (rest : State) : State :=
  if s.facade = .calibrated then rest else s.raise .notCalibrated

/-! ## STATE and the calibration cache -/

/-- `STATE <- v` (10_state.md R22). -/
def State.setFacade (s : State) (v : Facade) : State := { s with facade := v }

/-- STATE after a CFG_APPLY whose write succeeded: UNINIT becomes CONFIGURED (40_config_packer.md R102). -/
def facadeConfigured : Facade → Facade
  | .uninit => .configured
  | .configured => .configured
  | .calibrated => .calibrated

/-- STATE after an invalidation: CALIBRATED becomes CONFIGURED (41_calibration.md R132). -/
def facadeInvalidated : Facade → Facade
  | .uninit => .uninit
  | .configured => .configured
  | .calibrated => .configured

/-- `Invalidate()` (41_calibration.md R132): the cached values stay in place. -/
def State.invalidate (s : State) : State := s.setFacade (facadeInvalidated s.facade)

/-- The commit of CALIBRATE: the cache and STATE are written together (41_calibration.md R131). -/
def State.commit (s : State) (k p c : Half) : State :=
  { s with curLsb := k, pwrLsb := p, calVal := c, facade := .calibrated }

/-! ## Block reset -/

/-- A block reset (70_reset_and_hazards.md R240): the unspecified registers take free values, fresh for each
reset (00_scope.md R12). It makes no transaction (R241) and cannot change the input ports. Log entries 3, 11. -/
def State.blockReset (s : State) : State :=
  { s with
    facade := .uninit
    curLsb := Config.unspecifiedCurLsb (s.resets + 1)
    pwrLsb := Config.unspecifiedPwrLsb (s.resets + 1)
    calVal := Config.unspecifiedCalVal (s.resets + 1)
    res := Config.unspecifiedRes (s.resets + 1)
    resValid := false
    err := .none
    calz := false
    calovf := false
    done := false
    resets := s.resets + 1 }

end Sys2Proof.Machine
end

