-- ==== Sys2Proof/Machine/Operands.lean ====
section
/-! DEFINITION. How operands are read as numbers, and the division forms of the rules
(00_scope.md R6, R7; 30_encoding.md R76; 42_decoder.md R150). -/

namespace Sys2Proof.Machine

/-- `uint(raw)` of a raw sample (00_scope.md R6). -/
def uint (raw : Half) : Int := raw.toNat

/-- `sint(raw)`: the two's-complement value of a raw sample (00_scope.md R6). -/
def sint (raw : Half) : Int := raw.toInt

/-- The result register's value for an exact integer result (10_state.md R27). -/
def toResult (x : Int) : Result := BitVec.ofInt 64 x

/-- `zext_64(v)` of a 16-bit value (00_scope.md R6). -/
def zext64 (v : Half) : Result := v.zeroExtend 64

/-- RSHUNT = uint(OPA), in µΩ (30_encoding.md R76). -/
def State.rshunt (s : State) : Nat := s.opa.toNat

/-- IMAX = uint(OPB), in µA (30_encoding.md R76). -/
def State.imax (s : State) : Nat := s.opb.toNat

/-- `k = uint(CUR_LSB)` (42_decoder.md R153). -/
def State.currentLsb (s : State) : Nat := s.curLsb.toNat

/-- `p = uint(PWR_LSB)` (42_decoder.md R154). -/
def State.powerLsb (s : State) : Nat := s.pwrLsb.toNat

/-- `floor_div(a, b)` (00_scope.md R7); no rule calls it with b = 0. -/
def floorDiv (a b : Nat) : Nat := a / b

/-- `ceil_div(a, b)` (00_scope.md R7); no rule calls it with b = 0. -/
def ceilDiv (a b : Nat) : Nat := if a % b = 0 then a / b else a / b + 1

/-- The low 16 bits, `v[15:0]` (00_scope.md R6). -/
def low16 (n : Nat) : Half := BitVec.ofNat 16 n

end Sys2Proof.Machine
end

