-- ==== Sys2Proof/Machine/Flags.lean ====
section
/-! DEFINITION. The flags CALZ and CALOVF, the codes of STATE and ERR, and the output ports that pack them
(10_state.md R22, R29, R30, R34, R35). -/

namespace Sys2Proof.Machine

/-- CALZ = (c = 0) (41_calibration.md R126). -/
def calzFlag (c : Half) : Bool := c == 0#16

/-- CALOVF = (c_full > 0xFFFF) (41_calibration.md R125). -/
def calovfFlag (cFull : Nat) : Bool := decide (0xFFFF < cFull)

/-- CALZ <- z and CALOVF <- ovf (10_state.md R30). -/
def State.setFlags (s : State) (z ovf : Bool) : State := { s with calz := z, calovf := ovf }

/-- The 2-bit code of STATE (10_state.md R22). -/
def facadeCode : Facade → BitVec 2
  | .uninit => 0#2
  | .configured => 1#2
  | .calibrated => 2#2

/-- The 3-bit code of ERR (10_state.md R29). -/
def errCode : ErrKind → BitVec 3
  | .none => 0#3
  | .transport => 1#3
  | .calPrecondition => 2#3
  | .calVerifyMismatch => 3#3
  | .illegalCmd => 4#3
  | .notConfigured => 5#3
  | .notCalibrated => 6#3

/-- STATUS[15:0] (10_state.md R35). -/
def State.status (s : State) : Half :=
  ((BitVec.ofBool s.calovf).zeroExtend 16 <<< 7) ||| ((BitVec.ofBool s.calz).zeroExtend 16 <<< 6)
    ||| ((errCode s.err).zeroExtend 16 <<< 3) ||| ((BitVec.ofBool s.resValid).zeroExtend 16 <<< 2)
    ||| (facadeCode s.facade).zeroExtend 16

/-- The output ports (10_state.md R34, R38). -/
structure Outputs where
  res : Result
  status : Half
  lsbCur : Half
  lsbPwr : Half
  cal : Half
  done : Bool
  deriving DecidableEq, Repr

/-- What the host reads at the output ports (10_state.md R34). -/
def State.outputs (s : State) : Outputs :=
  { res := s.res, status := s.status, lsbCur := s.curLsb, lsbPwr := s.pwrLsb, cal := s.calVal, done := s.done }

end Sys2Proof.Machine
end

