-- ==== Sys2Proof/Machine/Calibration.lean ====
section
/-! DEFINITION. CAL_DERIVE and CALIBRATE (41_calibration.md). -/

namespace Sys2Proof.Machine

/-- What `DeriveCal` returns (41_calibration.md R127). -/
structure CalParams where
  k : Half
  p : Half
  c : Half
  z : Bool
  ovf : Bool
  deriving DecidableEq, Repr

/-- Step 1 and step 2: k, the current-LSB in units of 100 µA (41_calibration.md R122). -/
def currentLsbOf (i : Nat) : Nat := ceilDiv i currentScale

/-- Step 3: p, the power-LSB in units of 100 µW (41_calibration.md R123). -/
def powerLsbOf (k : Nat) : Nat := powerRatio * k

/-- Step 4: c_full, the untruncated calibration value (41_calibration.md R124). -/
def calFullOf (r k : Nat) : Nat := floorDiv calNumerator (k * r)

/-- `DeriveCal(r, i)`, called only with r > 0 and i > 0 (41_calibration.md R127). -/
def deriveCal (r i : Nat) : CalParams :=
  let k := currentLsbOf i
  let cFull := calFullOf r k
  let c := low16 cFull
  { k := low16 k, p := low16 (powerLsbOf k), c := c, z := calzFlag c, ovf := calovfFlag cFull }

/-- `PackCalResult(k, p, c)` (41_calibration.md R127). -/
def packCalResult (k p c : Half) : Result :=
  (c.zeroExtend 64 <<< 32) ||| (p.zeroExtend 64 <<< 16) ||| k.zeroExtend 64

/-- The precondition fails: r = 0 or i = 0 (41_calibration.md R121). -/
def State.calOperandZero (s : State) : Bool := s.rshunt == 0 || s.imax == 0

/-- The parameters derived from OPA and OPB (41_calibration.md R128, R129). -/
def State.derived (s : State) : CalParams := deriveCal s.rshunt s.imax

/-- CAL_DERIVE (41_calibration.md R128). -/
def execCalDerive (s : State) : Host.Outcome State Fault Refusal :=
  .next (
    if s.calOperandZero then s.raise .calPrecondition
    else (s.setFlags s.derived.z s.derived.ovf).succeed (packCalResult s.derived.k s.derived.p s.derived.c))

/-- The read-back, the verify and the commit of CALIBRATE (41_calibration.md R129 to R131). -/
def State.verifyCal (s : State) (d : CalParams) : State :=
  match s.memRead SensorReg.calibration.offset with
  | (none, t) => t.invalidate.raise .transport
  | (some v, t) =>
    if v = d.c then (t.commit d.k d.p d.c).succeed (packCalResult d.k d.p d.c)
    else t.invalidate.raise .calVerifyMismatch

/-- The write of CALIBRATE and what follows it (41_calibration.md R129). -/
def State.writeCal (s : State) (d : CalParams) : State :=
  match s.memWrite SensorReg.calibration.offset d.c with
  | (false, t) => t.invalidate.raise .transport
  | (true, t) => t.verifyCal d

/-- CALIBRATE (41_calibration.md R129): the state gate, the precondition, the flags, then the bus. -/
def execCalibrate (s : State) : Host.Outcome State Fault Refusal :=
  .next (s.whenConfigured (
    if s.calOperandZero then s.raise .calPrecondition
    else (s.setFlags s.derived.z s.derived.ovf).writeCal s.derived))

end Sys2Proof.Machine
end

