-- ==== Sys2Proof/Machine/ConfigPacker.lean ====
section
/-! DEFINITION. CFG_PACK and CFG_APPLY (40_config_packer.md). -/

namespace Sys2Proof.Machine

/-- `PackConfig` (40_config_packer.md R100). -/
def packConfig (avg vbusct vshct mode : Code) : Half :=
  (avg.zeroExtend 16 <<< 9) ||| (vbusct.zeroExtend 16 <<< 6) ||| (vshct.zeroExtend 16 <<< 3)
    ||| mode.zeroExtend 16

/-- CFG_PACK (40_config_packer.md R101). -/
def execCfgPack (avg vbusct vshct mode : Code) (s : State) : Host.Outcome State Fault Refusal :=
  .next (s.succeed (zext64 (packConfig avg vbusct vshct mode)))

/-- The write of CFG_APPLY and what follows it (40_config_packer.md R102). -/
def State.applyConfig (s : State) (w : Half) : State :=
  match s.memWrite SensorReg.configuration.offset w with
  | (false, t) => t.raise .transport
  | (true, t) => (t.setFacade (facadeConfigured t.facade)).succeed (zext64 w)

/-- CFG_APPLY (40_config_packer.md R102). -/
def execCfgApply (avg vbusct vshct mode : Code) (s : State) : Host.Outcome State Fault Refusal :=
  .next (s.applyConfig (packConfig avg vbusct vshct mode))

end Sys2Proof.Machine
end

