-- ==== Sys2Proof/Machine/Decoder.lean ====
section
/-! DEFINITION. The ADC-value decoder: DEC_*, RD_* and RD_RAW (42_decoder.md). -/

namespace Sys2Proof.Machine

/-! ## The decode functions, exact over the integers (42_decoder.md R151 to R154, R165) -/

/-- Bus voltage in µV (42_decoder.md R151). -/
def decodeBus (raw : Half) : Int := uint raw * busLsb

/-- Shunt voltage in nV (42_decoder.md R152). -/
def decodeShunt (raw : Half) : Int := sint raw * shuntLsb

/-- Current in µA, for a current-LSB of k × 100 µA (42_decoder.md R153). -/
def decodeCurrent (raw : Half) (k : Nat) : Int := sint raw * k * lsbUnit

/-- Power in µW, for a power-LSB of p × 100 µW (42_decoder.md R154). -/
def decodePower (raw : Half) (p : Nat) : Int := uint raw * p * lsbUnit

/-! ## Decode-only commands -/

/-- DEC_BUS (42_decoder.md R155). -/
def execDecBus (raw : Half) (s : State) : Host.Outcome State Fault Refusal :=
  .next (s.succeed (toResult (decodeBus raw)))

/-- DEC_SHUNT (42_decoder.md R156). -/
def execDecShunt (raw : Half) (s : State) : Host.Outcome State Fault Refusal :=
  .next (s.succeed (toResult (decodeShunt raw)))

/-- DEC_CURRENT (42_decoder.md R157). -/
def execDecCurrent (raw : Half) (s : State) : Host.Outcome State Fault Refusal :=
  .next (s.whenCalibrated (s.succeed (toResult (decodeCurrent raw s.currentLsb))))

/-- DEC_POWER (42_decoder.md R158). -/
def execDecPower (raw : Half) (s : State) : Host.Outcome State Fault Refusal :=
  .next (s.whenCalibrated (s.succeed (toResult (decodePower raw s.powerLsb))))

/-! ## Fetch-and-decode commands -/

/-- RD_BUS (42_decoder.md R159). -/
def execRdBus (s : State) : Host.Outcome State Fault Refusal :=
  .next (s.whenConfigured (s.readResult .busVoltage fun v => toResult (decodeBus v)))

/-- RD_SHUNT (42_decoder.md R160). -/
def execRdShunt (s : State) : Host.Outcome State Fault Refusal :=
  .next (s.whenConfigured (s.readResult .shuntVoltage fun v => toResult (decodeShunt v)))

/-- RD_CURRENT (42_decoder.md R161). -/
def execRdCurrent (s : State) : Host.Outcome State Fault Refusal :=
  .next (s.whenCalibrated (s.readResult .current fun v => toResult (decodeCurrent v s.currentLsb)))

/-- RD_POWER (42_decoder.md R162). -/
def execRdPower (s : State) : Host.Outcome State Fault Refusal :=
  .next (s.whenCalibrated (s.readResult .power fun v => toResult (decodePower v s.powerLsb)))

/-- RD_RAW (42_decoder.md R163): the value is zero-extended whatever the register. An offset outside the map
is ILLEGAL_CMD (30_encoding.md R73); the decoder yields no such command. Log entry 10. -/
def execRdRaw (off : Byte) (s : State) : Host.Outcome State Fault Refusal :=
  .next (match sensorRegAt off with
    | some r => s.readResult r zext64
    | none => s.illegal)

end Sys2Proof.Machine
end

