-- ==== Sys2Proof/Machine/DeviceControl.lean ====
section
/-! DEFINITION. RESET and PING (43_device_control.md). -/

namespace Sys2Proof.Machine

/-- RESET (43_device_control.md R190): STATE becomes UNINIT whether the write succeeds or fails. -/
def execReset (s : State) : Host.Outcome State Fault Refusal :=
  .next (match s.memWrite SensorReg.configuration.offset resetWord with
    | (false, t) => (t.setFacade .uninit).raise .transport
    | (true, t) => (t.setFacade .uninit).succeed (zext64 resetWord))

/-- The answer of PING when the read yields a value (43_device_control.md R191). -/
def pingResult (v : Half) : Result := if v = identityWord then 1#64 else 0#64

/-- PING (43_device_control.md R191): the one command that writes RES when ERR is not NONE. -/
def execPing (s : State) : Host.Outcome State Fault Refusal :=
  .next (match s.memRead SensorReg.manufacturerId.offset with
    | (none, t) => { t.succeed 0#64 with err := .transport }
    | (some v, t) => t.succeed (pingResult v))

end Sys2Proof.Machine
end

