-- ==== Sys2Proof/Machine/Dispatch.lean ====
section
/-! DEFINITION. One arm per command: the meaning of each row of spec/opcode_table.json. -/

namespace Sys2Proof.Machine

def exec (i : Instr) (s : State) : Host.Outcome State Fault Refusal :=
  match i with
  | .cfgPack avg vbusct vshct mode => Sys2Proof.Machine.execCfgPack avg vbusct vshct mode s
  | .cfgApply avg vbusct vshct mode => Sys2Proof.Machine.execCfgApply avg vbusct vshct mode s
  | .calDerive => Sys2Proof.Machine.execCalDerive s
  | .calibrate => Sys2Proof.Machine.execCalibrate s
  | .decBus raw => Sys2Proof.Machine.execDecBus raw s
  | .decShunt raw => Sys2Proof.Machine.execDecShunt raw s
  | .decCurrent raw => Sys2Proof.Machine.execDecCurrent raw s
  | .decPower raw => Sys2Proof.Machine.execDecPower raw s
  | .rdBus => Sys2Proof.Machine.execRdBus s
  | .rdShunt => Sys2Proof.Machine.execRdShunt s
  | .rdCurrent => Sys2Proof.Machine.execRdCurrent s
  | .rdPower => Sys2Proof.Machine.execRdPower s
  | .rdRaw off => Sys2Proof.Machine.execRdRaw off s
  | .reset => Sys2Proof.Machine.execReset s
  | .ping => Sys2Proof.Machine.execPing s

end Sys2Proof.Machine
end

