-- ==== Sys2Proof/Machine/Handshake.lean ====
section
/-! DEFINITION. The command port: when the block takes a command, DONE, and what the host does in between
(10_state.md R33, R37; 70_reset_and_hazards.md R240 to R246). -/

namespace Sys2Proof.Machine

/-- The block takes a command: CMD_VALID = 1 and the block is idle, DONE having been withdrawn
(10_state.md R37). -/
def State.takesCommand (s : State) : Bool := s.cmdValid && !s.done

/-- The command word the block samples (10_state.md R37). -/
def State.commandWord (s : State) : Word := s.cmd

/-- The step of a command ends: DONE rises (10_state.md R37). -/
def State.raiseDone (s : State) : State := { s with done := true }

/-- DONE stays raised until the host withdraws CMD_VALID (10_state.md R37). -/
def State.settleDone (s : State) : State := { s with done := s.done && s.cmdValid }

/-- The effect of one host action on the block (10_state.md R33, R36; 70_reset_and_hazards.md R240). -/
def State.hostAct (s : State) : HostAction → State
  | .present cmd opa opb => { s with cmd := cmd, opa := opa, opb := opb, cmdValid := true }
  | .withdraw => { s with cmdValid := false }
  | .blockReset => s.blockReset

/-- A step in which the block takes no command: the host's next action, if it has one; otherwise the block
waits (70_reset_and_hazards.md R240; 60_exceptions.md R220). Log entry 5. -/
def State.hostTurn (s : State) : State :=
  match s.hostActions with
  | [] => s.settleDone
  | a :: rest => (State.hostAct { s with hostActions := rest } a).settleDone

/-- Present a command word where the block takes its next command, with the operand ports as they are, and with
DONE withdrawn. Log entry 6. -/
def State.presentWord (s : State) (w : Word) : State :=
  { s with cmd := w, cmdValid := true, done := false }

/-- The host's actions for a program: each command presented, and withdrawn when it is done
(30_encoding.md R80; 10_state.md R37). Log entry 6. -/
def hostProgram : List (Word × Word × Word) → List HostAction
  | [] => []
  | (cmd, opa, opb) :: rest => .present cmd opa opb :: .withdraw :: hostProgram rest

end Sys2Proof.Machine
end

