-- ==== Sys2Proof/Machine/Step.lean ====
section
/-! DEFINITION. One step: the block takes the command presented and runs it whole, or the host acts
(10_state.md R37; 30_encoding.md R75). -/

namespace Sys2Proof.Machine

/-- One step. A command is one atomic step that ends with DONE raised; a word that is no command raises
ILLEGAL_CMD before anything else (60_exceptions.md R213, R221). -/
def step (s : State) : Host.Outcome State Fault Refusal :=
  if s.takesCommand then
    match decode s.commandWord with
    | .error _ => .next s.illegal.raiseDone
    | .ok i =>
      match exec i s with
      | .next t => .next t.raiseDone
      | .fault f => .fault f
      | .refused r => .refused r
  else .next s.hostTurn

/-- `s` with a command word, numbered as the opcode table numbers it, presented on the command port, so that the
very next step takes it. The block fetches nothing (10_state.md R21), so this stands for the host. Log entry 6. -/
def State.withFetchWord (s : State) (nbits w : Nat) : State := s.presentWord (tableWord nbits w)

end Sys2Proof.Machine
end

