-- ==== Sys2Proof/Machine/Assembler.lean ====
section
/-! DEFINITION. The assembler: one line, one command (30_encoding.md R78, R79). -/

namespace Sys2Proof.Machine

/-- The mnemonics a line may begin with: the fifteen commands and the ten pseudo-instructions
(30_encoding.md R78, R79). -/
inductive Mnemonic where
  | cfgPack | cfgApply | calDerive | calibrate | decBus | decShunt | decCurrent | decPower
  | rdBus | rdShunt | rdCurrent | rdPower | rdRaw | reset | ping
  | configure | rdCfg | rdCal | rdMask | rdAlert | rdId | rdBusRaw | rdShuntRaw | rdCurrentRaw | rdPowerRaw
  deriving DecidableEq, Repr

/-- What a line assembles to: the command word and, for the F-CAL commands, the values presented on OPA and OPB
with it; for every other command they are don't-care (30_encoding.md R78). -/
structure Assembled where
  word : Word
  operands : Option (Word × Word)
  deriving DecidableEq, Repr

/-! ## Operands: a number out of its range is rejected, never truncated (30_encoding.md R78) -/

/-- A configuration code, 0 to 7. -/
def asmCode (x : Int) : Option Code := if 0 ≤ x ∧ x ≤ 7 then some (BitVec.ofInt 3 x) else none

/-- A raw sample, -32768 to 65535, encoded as its value mod 2^16. -/
def asmRaw (x : Int) : Option Half := if -32768 ≤ x ∧ x ≤ 65535 then some (BitVec.ofInt 16 x) else none

/-- A shunt resistance or a current, 32 bits unsigned. -/
def asmWord (x : Int) : Option Word := if 0 ≤ x ∧ x < 2 ^ 32 then some (BitVec.ofInt 32 x) else none

/-- An offset of the register map. -/
def asmOff (x : Int) : Option Byte :=
  if 0 ≤ x ∧ x ≤ 255 ∧ offsetInMap (BitVec.ofInt 8 x) then some (BitVec.ofInt 8 x) else none

/-! ## Lines -/

/-- A command whose word carries all its operands. -/
def assembled (i : Instr) : Assembled := ⟨encode i, none⟩

/-- A line with four configuration codes. -/
def asmCfg (mk : Code → Code → Code → Code → Instr) : List Int → Option Assembled
  | [a, b, v, m] =>
    match asmCode a, asmCode b, asmCode v, asmCode m with
    | some a, some b, some v, some m => some (assembled (mk a b v m))
    | _, _, _, _ => none
  | _ => none

/-- A line with a resistance and a current, which go to OPA and OPB. -/
def asmCal (i : Instr) : List Int → Option Assembled
  | [r, x] =>
    match asmWord r, asmWord x with
    | some r, some x => some ⟨encode i, some (r, x)⟩
    | _, _ => none
  | _ => none

/-- A line with a raw sample. -/
def asmSample (mk : Half → Instr) : List Int → Option Assembled
  | [x] => (asmRaw x).map fun raw => assembled (mk raw)
  | _ => none

/-- A line with an offset. -/
def asmReg : List Int → Option Assembled
  | [x] => (asmOff x).map fun off => assembled (.rdRaw off)
  | _ => none

/-- A line without operands. -/
def asmBare (i : Instr) : List Int → Option Assembled
  | [] => some (assembled i)
  | _ => none

/-- One line: its mnemonic and its operands' values (30_encoding.md R78, R79). -/
def assemble : Mnemonic → List Int → Option Assembled
  | .cfgPack => asmCfg .cfgPack
  | .cfgApply => asmCfg .cfgApply
  | .calDerive => asmCal .calDerive
  | .calibrate => asmCal .calibrate
  | .decBus => asmSample .decBus
  | .decShunt => asmSample .decShunt
  | .decCurrent => asmSample .decCurrent
  | .decPower => asmSample .decPower
  | .rdBus => asmBare .rdBus
  | .rdShunt => asmBare .rdShunt
  | .rdCurrent => asmBare .rdCurrent
  | .rdPower => asmBare .rdPower
  | .rdRaw => asmReg
  | .reset => asmBare .reset
  | .ping => asmBare .ping
  | .configure => asmCfg .cfgApply
  | .rdCfg => asmBare (.rdRaw 0x00#8)
  | .rdCal => asmBare (.rdRaw 0x05#8)
  | .rdMask => asmBare (.rdRaw 0x06#8)
  | .rdAlert => asmBare (.rdRaw 0x07#8)
  | .rdId => asmBare (.rdRaw 0xFF#8)
  | .rdBusRaw => asmBare (.rdRaw 0x02#8)
  | .rdShuntRaw => asmBare (.rdRaw 0x01#8)
  | .rdCurrentRaw => asmBare (.rdRaw 0x04#8)
  | .rdPowerRaw => asmBare (.rdRaw 0x03#8)

/-- The host's action for an assembled line; `ports` stands on OPA and OPB where they are don't-care. -/
def Assembled.present (a : Assembled) (ports : Word × Word) : HostAction :=
  match a.operands with
  | some (r, i) => .present a.word r i
  | none => .present a.word ports.1 ports.2

/-! ## Text (30_encoding.md R78; the treatment of blanks and comments is log entry 15) -/

/-- The name of a mnemonic in a line. -/
def Mnemonic.name : Mnemonic → String
  | .cfgPack => "CFG_PACK" | .cfgApply => "CFG_APPLY" | .calDerive => "CAL_DERIVE" | .calibrate => "CALIBRATE"
  | .decBus => "DEC_BUS" | .decShunt => "DEC_SHUNT" | .decCurrent => "DEC_CURRENT" | .decPower => "DEC_POWER"
  | .rdBus => "RD_BUS" | .rdShunt => "RD_SHUNT" | .rdCurrent => "RD_CURRENT" | .rdPower => "RD_POWER"
  | .rdRaw => "RD_RAW" | .reset => "RESET" | .ping => "PING" | .configure => "CONFIGURE"
  | .rdCfg => "RD_CFG" | .rdCal => "RD_CAL" | .rdMask => "RD_MASK" | .rdAlert => "RD_ALERT" | .rdId => "RD_ID"
  | .rdBusRaw => "RD_BUS_RAW" | .rdShuntRaw => "RD_SHUNT_RAW" | .rdCurrentRaw => "RD_CURRENT_RAW"
  | .rdPowerRaw => "RD_POWER_RAW"

/-- All mnemonics. -/
def mnemonics : List Mnemonic :=
  [.cfgPack, .cfgApply, .calDerive, .calibrate, .decBus, .decShunt, .decCurrent, .decPower, .rdBus, .rdShunt,
   .rdCurrent, .rdPower, .rdRaw, .reset, .ping, .configure, .rdCfg, .rdCal, .rdMask, .rdAlert, .rdId, .rdBusRaw,
   .rdShuntRaw, .rdCurrentRaw, .rdPowerRaw]

/-- The value of a digit in a base up to 16. -/
def digitValue (base : Nat) (c : Char) : Option Nat :=
  let n := c.toNat
  let v := if 48 ≤ n ∧ n ≤ 57 then n - 48 else if 65 ≤ n ∧ n ≤ 70 then n - 55
    else if 97 ≤ n ∧ n ≤ 102 then n - 87 else 16
  if v < base then some v else none

/-- The number a non-empty list of digits spells, most significant first, after `acc`. -/
def digitsFrom (base acc : Nat) : List Char → Option Nat
  | [] => some acc
  | c :: cs =>
    match digitValue base c with
    | some d => digitsFrom base (acc * base + d) cs
    | none => none

/-- A non-empty list of digits. -/
def parseDigits (base : Nat) : List Char → Option Nat
  | [] => none
  | c :: cs => digitsFrom base 0 (c :: cs)

/-- A number: decimal, `0x` hexadecimal, or a signed decimal (30_encoding.md R78). -/
def parseNumber : List Char → Option Int
  | '-' :: cs => (parseDigits 10 cs).map fun n => -(n : Int)
  | '0' :: 'x' :: cs => (parseDigits 16 cs).map fun n => (n : Int)
  | cs => (parseDigits 10 cs).map fun n => (n : Int)

/-- A blank between the parts of a line. -/
def isBlank (c : Char) : Bool := c == ' ' || c == '\t'

/-- The text before the first `c`, and what follows it if there is one. -/
def cutAt (c : Char) : List Char → List Char × Option (List Char)
  | [] => ([], none)
  | x :: xs =>
    if x == c then ([], some xs)
    else match cutAt c xs with
      | (before, rest) => (x :: before, rest)

/-- Without blanks at either end. -/
def trimBlanks (cs : List Char) : List Char :=
  ((cs.dropWhile isBlank).reverse.dropWhile isBlank).reverse

/-- The parts between commas; `fuel` bounds their number. -/
def splitCommas : Nat → List Char → List (List Char)
  | 0, _ => []
  | fuel + 1, cs =>
    match cutAt ',' cs with
    | (before, none) => [before]
    | (before, some rest) => before :: splitCommas fuel rest

/-- The numbers of a list of operand texts, if each is one. -/
def parseOperands : List (List Char) → Option (List Int)
  | [] => some []
  | t :: ts =>
    match parseNumber (trimBlanks t), parseOperands ts with
    | some x, some xs => some (x :: xs)
    | _, _ => none

/-- The operands' values after the mnemonic. -/
def operandValues (cs : List Char) : Option (List Int) :=
  match trimBlanks cs with
  | [] => some []
  | c :: rest => parseOperands (splitCommas ((c :: rest).length + 1) (c :: rest))

/-- The mnemonic a text names. -/
def mnemonicOf (cs : List Char) : Option Mnemonic := mnemonics.find? fun m => m.name.toList == cs

/-- One line of text: a mnemonic, then operands separated by commas; a `;` begins a comment. -/
def assembleLine (line : String) : Option Assembled :=
  let body := trimBlanks (cutAt ';' line.toList).1
  let head := body.takeWhile fun c => !isBlank c
  match mnemonicOf head, operandValues (body.drop head.length) with
  | some m, some xs => assemble m xs
  | _, _ => none

end Sys2Proof.Machine
end

