-- ==== Sys2Proof/Safety.lean ====
section
/-! DEFINITION. What claims speak of: the invariants of the block, the transactions a command makes, illegal
words, and states that differ only in unspecified values. -/

namespace Sys2Proof.Machine

/-! ## Invariants -/

/-- While STATE = CALIBRATED, `1 ≤ CUR_LSB ≤ 1311` and `PWR_LSB = 25 × CUR_LSB` (10_state.md R26). -/
def State.CacheInRange (s : State) : Prop :=
  s.facade = .calibrated →
    1 ≤ s.curLsb.toNat ∧ s.curLsb.toNat ≤ 1311 ∧ s.pwrLsb.toNat = 25 * s.curLsb.toNat

/-- A request that writes the sensor register at an offset. -/
def BusRequest.writesTo (off : Byte) : BusRequest → Bool
  | .write _ (o :: _) => o == off
  | .write _ [] => false
  | .writeThenRead _ _ _ => false

/-- While STATE = CALIBRATED, CAL_VAL is the value that the last write to offset 0x05 sent and that the read
made right after it gave back (10_state.md R26); no reset word was written since (43_device_control.md R190). -/
def State.CacheVerified (s : State) : Prop :=
  s.facade = .calibrated →
    ∃ before written readBack after,
      s.busLog = before ++ ⟨writeRequest 0x05#8 s.calVal, written⟩ :: ⟨readRequest 0x05#8, readBack⟩ :: after ∧
      writeOk written = true ∧ readValue readBack = some s.calVal ∧
      ∀ t ∈ after, t.request.writesTo 0x05#8 = false ∧ t.request ≠ writeRequest 0x00#8 0x8000#16

/-- DONE is raised only while the host presents a command (10_state.md R37). -/
def State.HandshakeOk (s : State) : Prop := s.done = true → s.cmdValid = true

/-- The invariant of the block: 10_state.md R26 and the handshake of R37. -/
structure State.Inv (s : State) : Prop where
  cacheInRange : s.CacheInRange
  cacheVerified : s.CacheVerified
  handshakeOk : s.HandshakeOk

/-- The requests the block can make: reads of the nine offsets, writes of a word with bits 15:12 clear or of the
reset word to Configuration, and writes of Calibration, all to P_DEV_ADDR (20_memory.md R51 to R54). -/
def BusRequest.Permitted (q : BusRequest) : Prop :=
  (∃ off, off ∈ [0x00#8, 0x01#8, 0x02#8, 0x03#8, 0x04#8, 0x05#8, 0x06#8, 0x07#8, 0xFF#8] ∧
    q = .writeThenRead Config.pDevAddr [off] 2) ∨
  (∃ hi lo : Byte, (hi.toNat < 16 ∨ (hi = 0x80#8 ∧ lo = 0x00#8)) ∧ q = .write Config.pDevAddr [0x00#8, hi, lo]) ∨
  (∃ hi lo : Byte, q = .write Config.pDevAddr [0x05#8, hi, lo])

/-- Every transaction so far was one the block can make. -/
def State.BusLogOk (s : State) : Prop := ∀ t ∈ s.busLog, t.request.Permitted

/-! ## Commands -/

/-- The block takes a command in this step, and it is `i` (10_state.md R37; 30_encoding.md R75). -/
def State.Takes (s : State) (i : Instr) : Prop := s.takesCommand = true ∧ decode s.commandWord = .ok i

/-- Taking this word raises ILLEGAL_CMD: no transaction, and nothing changes but ERR and RES_VALID
(60_exceptions.md R221), with DONE raised at the end (10_state.md R37). -/
def IllegalWord (w : Word) : Prop :=
  ∀ s : State, s.takesCommand = true → s.commandWord = w →
    step s = .next { s with err := .illegalCmd, resValid := false, done := true }

/-- The transactions each command's rule lists, in rule order (20_memory.md R57). -/
def requestsOf (s : State) : Instr → List BusRequest
  | .cfgApply a b v m => [writeRequest 0x00#8 (packConfig a b v m)]
  | .calibrate =>
    [writeRequest 0x05#8 (deriveCal s.opa.toNat s.opb.toNat).c, readRequest 0x05#8]
  | .rdBus => [readRequest 0x02#8]
  | .rdShunt => [readRequest 0x01#8]
  | .rdCurrent => [readRequest 0x04#8]
  | .rdPower => [readRequest 0x03#8]
  | .rdRaw off => [readRequest off]
  | .reset => [writeRequest 0x00#8 0x8000#16]
  | .ping => [readRequest 0xFF#8]
  | .cfgPack _ _ _ _ | .calDerive | .decBus _ | .decShunt _ | .decCurrent _ | .decPower _ => []

/-- A transaction that yielded Fail (20_memory.md R56). -/
def BusTransaction.failed (t : BusTransaction) : Bool :=
  match t.request with
  | .write _ _ => !writeOk t.answer
  | .writeThenRead _ _ _ => (readValue t.answer).isNone

/-- Commands the state gate refuses with NOT_CONFIGURED from UNINIT (60_exceptions.md R211). -/
def needsConfigured : Instr → Bool
  | .calibrate | .rdBus | .rdShunt => true
  | .cfgPack _ _ _ _ | .cfgApply _ _ _ _ | .calDerive | .decBus _ | .decShunt _ | .decCurrent _ | .decPower _
  | .rdCurrent | .rdPower | .rdRaw _ | .reset | .ping => false

/-- Commands the state gate refuses with NOT_CALIBRATED outside CALIBRATED (60_exceptions.md R211). -/
def needsCalibrated : Instr → Bool
  | .decCurrent _ | .decPower _ | .rdCurrent | .rdPower => true
  | .cfgPack _ _ _ _ | .cfgApply _ _ _ _ | .calDerive | .calibrate | .decBus _ | .decShunt _ | .rdBus | .rdShunt
  | .rdRaw _ | .reset | .ping => false

/-! ## Assembler -/

/-- An assembled line is the word of `i`, with these values for OPA and OPB (30_encoding.md R78). -/
def AssemblesTo (a : Option Assembled) (i : Instr) (operands : Option (Word × Word)) : Prop :=
  ∃ w, decode w = .ok i ∧ a = some ⟨w, operands⟩

/-- The number of operands after each mnemonic (30_encoding.md R78, R79). -/
def operandCount : Mnemonic → Nat
  | .cfgPack | .cfgApply | .configure => 4
  | .calDerive | .calibrate => 2
  | .decBus | .decShunt | .decCurrent | .decPower | .rdRaw => 1
  | .rdBus | .rdShunt | .rdCurrent | .rdPower | .reset | .ping | .rdCfg | .rdCal | .rdMask | .rdAlert | .rdId
  | .rdBusRaw | .rdShuntRaw | .rdCurrentRaw | .rdPowerRaw => 0

/-- How a number is written in a line: decimal, `0x` hexadecimal, or a signed decimal (30_encoding.md R78). -/
inductive Spells : List Char → Int → Prop where
  | decimal (n : Nat) : Spells (Nat.toDigits 10 n) n
  | hexadecimal (n : Nat) : Spells ('0' :: 'x' :: Nat.toDigits 16 n) n
  | negative (n : Nat) : Spells ('-' :: Nat.toDigits 10 n) (-n)

/-- Operand texts separated by commas (30_encoding.md R78). -/
def joinOperands : List (List Char) → List Char
  | [] => []
  | [t] => t
  | t :: u :: ts => t ++ ',' :: ' ' :: joinOperands (u :: ts)

/-! ## Unspecified values -/

/-- The same state but for values the spec leaves unspecified: the cache outside CALIBRATED, and RES while
RES_VALID = 0 (10_state.md R39; 93_implementation_defined.md U8). -/
structure State.SameButUnspecified (s t : State) : Prop where
  rest : t = { s with curLsb := t.curLsb, pwrLsb := t.pwrLsb, calVal := t.calVal, res := t.res }
  cache : s.facade = .calibrated → t.curLsb = s.curLsb ∧ t.pwrLsb = s.pwrLsb ∧ t.calVal = s.calVal
  result : s.resValid = true → t.res = s.res

end Sys2Proof.Machine
end

