-- ==== Sys2Proof/Certificates/Slice0/Obligations.lean ====
section
/-! DEFINITION. The statements for the provers, in the order of OBLIGATIONS.json. -/

open Sys2Proof Sys2Proof.Machine

/-! ## Encoding (30_encoding.md) -/

/-- One word of every command, written out from 30_encoding.md R70 to R72, decodes to the command it stands
for. -/
def Obligations.WordsWrittenOutFromTheSpecDecode : Prop :=
  decode 0x10000756#32 = .ok (.cfgPack 3 5 2 6) ∧ decode 0x20000127#32 = .ok (.cfgApply 0 4 4 7) ∧
  decode 0x30000000#32 = .ok .calDerive ∧ decode 0x40000000#32 = .ok .calibrate ∧
  decode 0x50002580#32 = .ok (.decBus 0x2580) ∧ decode 0x600003E8#32 = .ok (.decShunt 0x03E8) ∧
  decode 0x70008000#32 = .ok (.decCurrent 0x8000) ∧ decode 0x80000028#32 = .ok (.decPower 0x0028) ∧
  decode 0x90000000#32 = .ok .rdBus ∧ decode 0xA0000000#32 = .ok .rdShunt ∧
  decode 0xB0000000#32 = .ok .rdCurrent ∧ decode 0xC0000000#32 = .ok .rdPower ∧
  decode 0xD00000FF#32 = .ok (.rdRaw 0xFF) ∧ decode 0xE0000000#32 = .ok .reset ∧
  decode 0xF0000000#32 = .ok .ping

/-- Decoding the encoding of any well-formed command gives it back, with every operand (30_encoding.md R70 to
R72, R76). -/
def Obligations.DecodeOfEncodeIsTheCommand : Prop :=
  ∀ i : Instr, i.wellFormed = true → decode (encode i) = .ok i

/-- Every legal word has one meaning: the word a decoded command encodes to is the word decoded
(30_encoding.md R75). -/
def Obligations.EncodeOfDecodeIsTheWord : Prop :=
  ∀ (w : Word) (i : Instr), decode w = .ok i → i.wellFormed = true ∧ encode i = w

/-- 30_encoding.md R72: a word is legal exactly when it matches a row of the opcode map under its mask, with the
offset of RD_RAW in the map, and the command decoded is the one of that row. -/
def Obligations.LegalWordsMatchTheOpcodeMap : Prop :=
  (∀ w : Word, (∃ i, decode w = .ok i) ↔
    (∃ row ∈ [(0x10000000#32, 0xFFFFF000#32), (0x20000000#32, 0xFFFFF000#32), (0x30000000#32, 0xFFFFFFFF#32),
        (0x40000000#32, 0xFFFFFFFF#32), (0x50000000#32, 0xFFFF0000#32), (0x60000000#32, 0xFFFF0000#32),
        (0x70000000#32, 0xFFFF0000#32), (0x80000000#32, 0xFFFF0000#32), (0x90000000#32, 0xFFFFFFFF#32),
        (0xA0000000#32, 0xFFFFFFFF#32), (0xB0000000#32, 0xFFFFFFFF#32), (0xC0000000#32, 0xFFFFFFFF#32),
        (0xD0000000#32, 0xFFFFFF00#32), (0xE0000000#32, 0xFFFFFFFF#32), (0xF0000000#32, 0xFFFFFFFF#32)],
      w &&& row.2 = row.1) ∧
    (w.extractLsb' 28 4 = 0xD#4 →
      w.extractLsb' 0 8 ∈ [0x00#8, 0x01#8, 0x02#8, 0x03#8, 0x04#8, 0x05#8, 0x06#8, 0x07#8, 0xFF#8])) ∧
  (∀ (w : Word) (i : Instr), decode w = .ok i → w &&& (opcodeRow i).2 = (opcodeRow i).1)

/-- 30_encoding.md R73, R74 and 60_exceptions.md R221: a word is illegal exactly in the four cases, and taking
it changes nothing but ERR and RES_VALID (and raises DONE, as every command does). -/
def Obligations.IllegalWordsAreTheFourCases : Prop :=
  (∀ w : Word, (∃ e, decode w = .error e) ↔
    (w.extractLsb' 28 4 = 0x0#4 ∨
     w.extractLsb' 16 12 ≠ 0#12 ∨
     (w.extractLsb' 28 4 ∈ [0x1#4, 0x2#4] ∧ w.extractLsb' 12 4 ≠ 0#4) ∨
     (w.extractLsb' 28 4 = 0xD#4 ∧ w.extractLsb' 8 8 ≠ 0#8) ∨
     (w.extractLsb' 28 4 ∈ [0x3#4, 0x4#4, 0x9#4, 0xA#4, 0xB#4, 0xC#4, 0xE#4, 0xF#4] ∧
       w.extractLsb' 0 16 ≠ 0#16) ∨
     (w.extractLsb' 28 4 = 0xD#4 ∧
       w.extractLsb' 0 8 ∉ [0x00#8, 0x01#8, 0x02#8, 0x03#8, 0x04#8, 0x05#8, 0x06#8, 0x07#8, 0xFF#8]))) ∧
  (∀ (s : State) (e : DecodeReject), s.cmdValid = true → s.done = false → decode s.cmd = .error e →
    step s = .next { s with err := .illegalCmd, resValid := false, done := true })

/-! ## The step, the command port and block reset (10_state.md, 70_reset_and_hazards.md) -/

/-- When the block is idle, a command is presented and its word decodes to `i`, the step is `exec i` followed by
DONE rising (10_state.md R37; 30_encoding.md R75). -/
def Obligations.StepRunsTheDecodedCommand : Prop :=
  ∀ (s : State) (i : Instr), s.cmdValid = true → s.done = false → decode s.cmd = .ok i →
    ∃ t, exec i s = .next t ∧ step s = .next { t with done := true }

/-- The handshake of 10_state.md R37, with the model's list of host actions (log entry 5): a command taken ends
with DONE raised and the ports as sampled; no other step takes a command; DONE falls when the host withdraws
CMD_VALID and not before. -/
def Obligations.HandshakeTakesOneCommandAtATime : Prop :=
  (∀ s : State, s.cmdValid = true → s.done = false →
    ∃ t, step s = .next t ∧ t.done = true ∧ t.cmdValid = true ∧ t.cmd = s.cmd ∧ t.opa = s.opa ∧
      t.opb = s.opb ∧ t.hostActions = s.hostActions) ∧
  (∀ s : State, s.cmdValid = true → s.done = true →
    (s.hostActions = [] → step s = .next s) ∧
    (∀ rest, s.hostActions = .withdraw :: rest →
      step s = .next { s with hostActions := rest, cmdValid := false, done := false }) ∧
    (∀ cmd opa opb rest, s.hostActions = .present cmd opa opb :: rest →
      step s = .next { s with hostActions := rest, cmd := cmd, opa := opa, opb := opb })) ∧
  (∀ s : State, s.cmdValid = false → s.done = false →
    (s.hostActions = [] → step s = .next s) ∧
    (∀ rest, s.hostActions = .withdraw :: rest → step s = .next { s with hostActions := rest }) ∧
    (∀ cmd opa opb rest, s.hostActions = .present cmd opa opb :: rest →
      step s = .next { s with hostActions := rest, cmd := cmd, opa := opa, opb := opb, cmdValid := true }))

/-- No command and no host action stops the block: every step answers a next state (60_exceptions.md R210, R214;
70_reset_and_hazards.md R249). -/
def Obligations.EveryStepAnswersANextState : Prop :=
  (∀ (i : Instr) (s : State), ∃ t, exec i s = .next t) ∧ ∀ s : State, ∃ t, step s = .next t

/-- 70_reset_and_hazards.md R240: the registers with a reset value, at power-on and at a block reset between
commands. Nothing is said of CUR_LSB, PWR_LSB, CAL_VAL and RES, which are unspecified. -/
def Obligations.BlockResetSetsEveryRegister : Prop :=
  (State.reset.facade = .uninit ∧ State.reset.resValid = false ∧ State.reset.err = .none ∧
    State.reset.calz = false ∧ State.reset.calovf = false ∧ State.reset.done = false) ∧
  (∀ (s : State) (rest : List HostAction), (s.cmdValid = false ∨ s.done = true) →
    s.hostActions = .blockReset :: rest →
    ∃ t, step s = .next t ∧ t.facade = .uninit ∧ t.resValid = false ∧ t.err = .none ∧ t.calz = false ∧
      t.calovf = false ∧ t.done = false)

/-- 70_reset_and_hazards.md R241: a block reset makes no transaction; the only command that sends the reset word
is RESET; and STATE becomes CALIBRATED only in a step that takes CALIBRATE. -/
def Obligations.BlockResetMakesNoTransaction : Prop :=
  (∀ (s t : State) (rest : List HostAction), (s.cmdValid = false ∨ s.done = true) →
    s.hostActions = .blockReset :: rest → step s = .next t →
    t.busLog = s.busLog ∧ t.busScript = s.busScript ∧ t.facade = .uninit) ∧
  (∀ (i : Instr) (s t : State) (new : List BusTransaction) (tr : BusTransaction), exec i s = .next t →
    t.busLog = s.busLog ++ new → tr ∈ new → tr.request = .write Config.pDevAddr [0x00#8, 0x80#8, 0x00#8] →
    i = .reset) ∧
  (∀ s t : State, step s = .next t → s.facade ≠ .calibrated → t.facade = .calibrated → s.Takes .calibrate)

/-! ## The bus (20_memory.md) -/

/-- 20_memory.md R53 and R54: one access is one transaction to P_DEV_ADDR, appended to the history with its
answer: a write sends off, v[15:8], v[7:0]; a read sends off, asks for two bytes, and its value is
b0 × 256 + b1. -/
def Obligations.AccessesAreOneTransactionOfTheirBytes : Prop :=
  (∀ (s : State) (off : Byte) (v : Half), (s.memWrite off v).2 =
    { s with
      busLog := s.busLog ++ [⟨.write Config.pDevAddr [off, v.extractLsb' 8 8, v.extractLsb' 0 8],
        s.answer (.write Config.pDevAddr [off, v.extractLsb' 8 8, v.extractLsb' 0 8])⟩]
      busScript := s.busScript.tail }) ∧
  (∀ (s : State) (off : Byte), (s.memRead off).2 =
    { s with
      busLog := s.busLog ++ [⟨.writeThenRead Config.pDevAddr [off] 2,
        s.answer (.writeThenRead Config.pDevAddr [off] 2)⟩]
      busScript := s.busScript.tail }) ∧
  (∀ (s : State) (off b0 b1 : Byte), s.answer (.writeThenRead Config.pDevAddr [off] 2) = .transfer 1 [b0, b1] →
    ∃ v, (s.memRead off).1 = some v ∧ v.toNat = b0.toNat * 256 + b1.toNat)

/-- 20_memory.md section 2: which answers are Fail (R56); a transaction that fails ends its command with TRANSPORT,
and nothing is sent again after it. R56 speaks of fewer bytes than requested only: that surplus acknowledgements and
surplus bytes are good, which the two equivalences also say, is the model's choice (DESIGN CHOICE, log entry 7). -/
def Obligations.ShortTransfersFailWithoutRetry : Prop :=
  (∀ a : BusAnswer, writeOk a = true ↔ ∃ n bs, a = .transfer n bs ∧ 3 ≤ n) ∧
  (∀ a : BusAnswer, readValue a = none ↔
    a = .nack ∨ a = .absent ∨ ∃ n bs, a = .transfer n bs ∧ (n < 1 ∨ bs.length < 2)) ∧
  (∀ (i : Instr) (s t : State) (sent after : List BusTransaction) (tr : BusTransaction), exec i s = .next t →
    t.busLog = s.busLog ++ sent ++ tr :: after → tr.failed = true → after = [] ∧ t.err = .transport)

/-- 20_memory.md R57: an access is exactly one transaction, and each command makes the transactions its rule
lists, in that order, and no others: all of them when it succeeds, a first part of them when it ends early. Each
takes one answer. -/
def Obligations.CommandsMakeOnlyTheTransactionsTheirRulesList : Prop :=
  (∀ (s : State) (off : Byte) (v : Half), (s.memWrite off v).2.busLog.length = s.busLog.length + 1 ∧
    (s.memRead off).2.busLog.length = s.busLog.length + 1) ∧
  (∀ (i : Instr) (s t : State), i.wellFormed = true → exec i s = .next t →
    ∃ new, t.busLog = s.busLog ++ new ∧ new.map BusTransaction.request <+: requestsOf s i ∧
      (t.err = .none → new.map BusTransaction.request = requestsOf s i) ∧
      t.busScript = s.busScript.drop new.length)

/-! ## Configuration word packer (40_config_packer.md) -/

/-- 40_config_packer.md R100: PackConfig is the sum of the shifted codes, each in its place. -/
def Obligations.PackConfigPlacesTheCodes : Prop :=
  ∀ a b v m : Code,
    (packConfig a b v m).toNat = a.toNat * 2 ^ 9 + b.toNat * 2 ^ 6 + v.toNat * 2 ^ 3 + m.toNat ∧
    (packConfig a b v m).extractLsb' 12 4 = 0#4 ∧ (packConfig a b v m).extractLsb' 9 3 = a ∧
    (packConfig a b v m).extractLsb' 6 3 = b ∧ (packConfig a b v m).extractLsb' 3 3 = v ∧
    (packConfig a b v m).extractLsb' 0 3 = m

/-- The laws of 40_config_packer.md section 1 that its R103 derives: PackConfig is injective, its words are at
most 0x0FFF, none is the reset word, and every such word is a packed word. -/
def Obligations.PackConfigIsInjective : Prop :=
  (∀ a b v m a' b' v' m' : Code, packConfig a b v m = packConfig a' b' v' m' →
    a = a' ∧ b = b' ∧ v = v' ∧ m = m') ∧
  (∀ a b v m : Code, (packConfig a b v m).toNat ≤ 0x0FFF ∧ packConfig a b v m ≠ 0x8000#16) ∧
  (∀ w : Half, w.toNat ≤ 0x0FFF → ∃ a b v m, packConfig a b v m = w)

/-- 40_config_packer.md R101, CFG_PACK. -/
def Obligations.CfgPackPacksWithoutWriting : Prop :=
  (∀ (w : Word) (a b v m : Code), decode w = .ok (.cfgPack a b v m) ↔
    w &&& 0xFFFFF000#32 = 0x10000000#32 ∧ a = w.extractLsb' 9 3 ∧ b = w.extractLsb' 6 3 ∧
      v = w.extractLsb' 3 3 ∧ m = w.extractLsb' 0 3) ∧
  (∀ w : Word, w.extractLsb' 28 4 = 0x1#4 → (w.extractLsb' 16 12 ≠ 0#12 ∨ w.extractLsb' 12 4 ≠ 0#4) →
    IllegalWord w) ∧
  (∀ (a b v m : Code) (s : State), exec (.cfgPack a b v m) s =
    .next { s with res := (packConfig a b v m).zeroExtend 64, resValid := true, err := .none }) ∧
  (∀ (w : Word) (a b v m : Code), decode w = .ok (.cfgPack a b v m) →
    (packConfig a b v m).zeroExtend 64 = (w.extractLsb' 0 12).zeroExtend 64) ∧
  packConfig 0 0 0 0 = 0x0000#16 ∧ packConfig 7 7 7 7 = 0x0FFF#16 ∧
  decode 0x10000756#32 = .ok (.cfgPack 3 5 2 6) ∧ packConfig 3 5 2 6 = 0x0756#16

/-- 40_config_packer.md R102, CFG_APPLY. -/
def Obligations.CfgApplyWritesThePackedWord : Prop :=
  (∀ (w : Word) (a b v m : Code), decode w = .ok (.cfgApply a b v m) ↔
    w &&& 0xFFFFF000#32 = 0x20000000#32 ∧ a = w.extractLsb' 9 3 ∧ b = w.extractLsb' 6 3 ∧
      v = w.extractLsb' 3 3 ∧ m = w.extractLsb' 0 3) ∧
  (∀ w : Word, w.extractLsb' 28 4 = 0x2#4 → (w.extractLsb' 16 12 ≠ 0#12 ∨ w.extractLsb' 12 4 ≠ 0#4) →
    IllegalWord w) ∧
  (∀ (a b v m : Code) (s : State),
    writeOk (s.answer (writeRequest 0x00#8 (packConfig a b v m))) = true →
    exec (.cfgApply a b v m) s = .next { s.transact (writeRequest 0x00#8 (packConfig a b v m)) with
      facade := if s.facade = .uninit then .configured else s.facade
      res := (packConfig a b v m).zeroExtend 64, resValid := true, err := .none }) ∧
  (∀ (a b v m : Code) (s : State),
    writeOk (s.answer (writeRequest 0x00#8 (packConfig a b v m))) = false →
    exec (.cfgApply a b v m) s = .next { s.transact (writeRequest 0x00#8 (packConfig a b v m)) with
      resValid := false, err := .transport }) ∧
  (∀ w : Half, writeRequest 0x00#8 w =
    .write Config.pDevAddr [0x00#8, w.extractLsb' 8 8, w.extractLsb' 0 8]) ∧
  decode 0x20000127#32 = .ok (.cfgApply 0 4 4 7) ∧ packConfig 0 4 4 7 = 0x0127#16

/-! ## Calibration (41_calibration.md) -/

/-- 41_calibration.md R122: k is the smallest integer with k × 3_276_700 ≥ i, and it fits. -/
def Obligations.CurrentLsbIsTheLeastSufficientMultiple : Prop :=
  ∀ r i : Nat, 1 ≤ i → i < 2 ^ 32 →
    i ≤ currentLsbOf i * 3276700 ∧ (∀ j, i ≤ j * 3276700 → currentLsbOf i ≤ j) ∧
    1 ≤ currentLsbOf i ∧ currentLsbOf i ≤ 1311 ∧ (∀ n, i = n * 3276700 → currentLsbOf i = n) ∧
    (deriveCal r i).k.toNat = currentLsbOf i

/-- 41_calibration.md R123: p = 25 × k, between 25 and 32775. -/
def Obligations.PowerLsbIsTwentyFiveCurrentLsbs : Prop :=
  ∀ r i : Nat, 1 ≤ i → i < 2 ^ 32 →
    (deriveCal r i).p.toNat = 25 * currentLsbOf i ∧ 25 ≤ (deriveCal r i).p.toNat ∧
    (deriveCal r i).p.toNat ≤ 32775

/-- 41_calibration.md R124: c_full is the floor of 51_200_000 / (k × r). -/
def Obligations.CalibrationValueIsTheFloorQuotient : Prop :=
  ∀ r k : Nat, 1 ≤ k * r →
    calFullOf r k * (k * r) ≤ 51200000 ∧ 51200000 < (calFullOf r k + 1) * (k * r) ∧ calFullOf r k ≤ 51200000

/-- 41_calibration.md R125: c is c_full mod 2^16, and CALOVF says that c_full exceeded 0xFFFF, exactly when
k × r ≤ 781. -/
def Obligations.CalibrationValueKeepsTheLowSixteenBits : Prop :=
  ∀ r i : Nat, 1 ≤ r → 1 ≤ i →
    (deriveCal r i).c.toNat = calFullOf r (currentLsbOf i) % 2 ^ 16 ∧
    ((deriveCal r i).ovf = true ↔ 0xFFFF < calFullOf r (currentLsbOf i)) ∧
    ((deriveCal r i).ovf = true ↔ currentLsbOf i * r ≤ 781)

/-- The laws 41_calibration.md derives in R126 and R133: CALZ exactly when k × r > 51_200_000, never with
CALOVF; k depends on i alone; c_full never grows with r or k. -/
def Obligations.ZeroCalibrationAndMonotonicityLaws : Prop :=
  (∀ r i : Nat, 1 ≤ r → 1 ≤ i →
    ((deriveCal r i).z = true ↔ (deriveCal r i).c = 0#16) ∧
    ((deriveCal r i).z = true ↔ 51200000 < currentLsbOf i * r) ∧
    ((deriveCal r i).z = true → (deriveCal r i).ovf = false)) ∧
  (∀ r r' i : Nat, (deriveCal r i).k = (deriveCal r' i).k ∧ (deriveCal r i).p = (deriveCal r' i).p) ∧
  (∀ r r' k k' : Nat, 1 ≤ r → 1 ≤ k → r ≤ r' → k ≤ k' → calFullOf r' k' ≤ calFullOf r k)

/-- 41_calibration.md R127: what DeriveCal returns, from the quantities of R122 and R124, and the layout of
PackCalResult. -/
def Obligations.DeriveCalAndItsResultLayout : Prop :=
  (∀ r i : Nat, 1 ≤ r → 1 ≤ i → i < 2 ^ 32 →
    (deriveCal r i).k.toNat = currentLsbOf i ∧ (deriveCal r i).p.toNat = 25 * currentLsbOf i ∧
    (deriveCal r i).c.toNat = calFullOf r (currentLsbOf i) % 2 ^ 16 ∧
    ((deriveCal r i).z = true ↔ (deriveCal r i).c = 0#16) ∧
    ((deriveCal r i).ovf = true ↔ 0xFFFF < calFullOf r (currentLsbOf i)) ∧
    currentLsbOf i * 3276700 < i + 3276700 ∧ i ≤ currentLsbOf i * 3276700 ∧
    calFullOf r (currentLsbOf i) = 51200000 / (currentLsbOf i * r)) ∧
  (∀ k p c : Half, (packCalResult k p c).extractLsb' 0 16 = k ∧ (packCalResult k p c).extractLsb' 16 16 = p ∧
    (packCalResult k p c).extractLsb' 32 16 = c ∧ (packCalResult k p c).extractLsb' 48 16 = 0#16)

/-- 41_calibration.md R128, CAL_DERIVE. -/
def Obligations.CalDeriveTouchesNeitherSensorNorCache : Prop :=
  (∀ w : Word, decode w = .ok .calDerive ↔ w &&& 0xFFFFFFFF#32 = 0x30000000#32) ∧
  (∀ w : Word, w.extractLsb' 28 4 = 0x3#4 → w.extractLsb' 0 28 ≠ 0#28 → IllegalWord w) ∧
  (∀ s : State, s.opa = 0#32 ∨ s.opb = 0#32 →
    exec .calDerive s = .next { s with resValid := false, err := .calPrecondition }) ∧
  (∀ s : State, s.opa ≠ 0#32 → s.opb ≠ 0#32 →
    exec .calDerive s = .next { s with
      calz := (deriveCal s.opa.toNat s.opb.toNat).z
      calovf := (deriveCal s.opa.toNat s.opb.toNat).ovf
      res := packCalResult (deriveCal s.opa.toNat s.opb.toNat).k (deriveCal s.opa.toNat s.opb.toNat).p
        (deriveCal s.opa.toNat s.opb.toNat).c
      resValid := true, err := .none }) ∧
  deriveCal 1 1 = ⟨1#16, 25#16, 0x4000#16, false, true⟩ ∧
  deriveCal 51200001 1 = ⟨1#16, 25#16, 0#16, true, false⟩ ∧
  (∀ r, (deriveCal r 4294967295).k = 1311#16 ∧ (deriveCal r 4294967295).p = 32775#16) ∧
  deriveCal 100000 3276700 = ⟨1#16, 25#16, 512#16, false, false⟩ ∧
  packCalResult 1#16 25#16 512#16 = 0x0000020000190001#64

/-- 41_calibration.md R129, R130 and R132, CALIBRATE: the gate, the precondition, then the write, the read-back
and the verify of all 16 bits, each failure with its own effect; the commit on success. A failure after the
derivation leaves STATE at CONFIGURED and the cached values in place. -/
def Obligations.CalibrateWritesReadsBackAndCommits : Prop :=
  (∀ w : Word, decode w = .ok .calibrate ↔ w &&& 0xFFFFFFFF#32 = 0x40000000#32) ∧
  (∀ w : Word, w.extractLsb' 28 4 = 0x4#4 → w.extractLsb' 0 28 ≠ 0#28 → IllegalWord w) ∧
  (∀ s : State, s.facade = .uninit →
    exec .calibrate s = .next { s with resValid := false, err := .notConfigured }) ∧
  (∀ s : State, s.facade ≠ .uninit → s.opa = 0#32 ∨ s.opb = 0#32 →
    exec .calibrate s = .next { s with resValid := false, err := .calPrecondition }) ∧
  (∀ (s t : State) (d : CalParams), s.facade ≠ .uninit → s.opa ≠ 0#32 → s.opb ≠ 0#32 →
    d = deriveCal s.opa.toNat s.opb.toNat → t = s.transact (writeRequest 0x05#8 d.c) →
    (writeOk (s.answer (writeRequest 0x05#8 d.c)) = false →
      exec .calibrate s = .next { t with
        calz := d.z, calovf := d.ovf, facade := .configured, resValid := false, err := .transport }) ∧
    (writeOk (s.answer (writeRequest 0x05#8 d.c)) = true →
      (readValue (t.answer (readRequest 0x05#8)) = none →
        exec .calibrate s = .next { t.transact (readRequest 0x05#8) with
          calz := d.z, calovf := d.ovf, facade := .configured, resValid := false, err := .transport }) ∧
      (∀ v, readValue (t.answer (readRequest 0x05#8)) = some v → v ≠ d.c →
        exec .calibrate s = .next { t.transact (readRequest 0x05#8) with
          calz := d.z, calovf := d.ovf, facade := .configured, resValid := false,
          err := .calVerifyMismatch }) ∧
      (readValue (t.answer (readRequest 0x05#8)) = some d.c →
        exec .calibrate s = .next { t.transact (readRequest 0x05#8) with
          calz := d.z, calovf := d.ovf, curLsb := d.k, pwrLsb := d.p, calVal := d.c, facade := .calibrated
          res := packCalResult d.k d.p d.c, resValid := true, err := .none }))) ∧
  (∀ c : Half, writeRequest 0x05#8 c =
    .write Config.pDevAddr [0x05#8, c.extractLsb' 8 8, c.extractLsb' 0 8]) ∧
  deriveCal 100000 3276700 = ⟨1#16, 25#16, 0x0200#16, false, false⟩ ∧
  packCalResult 1#16 25#16 0x0200#16 = 0x0000020000190001#64

/-! ## ADC-value decoder (42_decoder.md) -/

/-- 42_decoder.md R150 to R154: the signedness of each sample, the exact products, and their ranges. -/
def Obligations.DecodedValuesAreExactProducts : Prop :=
  (∀ raw : Half, decodeBus raw = raw.toNat * 1250 ∧ 0 ≤ decodeBus raw ∧ decodeBus raw ≤ 81918750) ∧
  (∀ raw : Half, decodeShunt raw = raw.toInt * 2500 ∧ -81920000 ≤ decodeShunt raw ∧
    decodeShunt raw ≤ 81917500) ∧
  (∀ (raw : Half) (k : Nat), decodeCurrent raw k = raw.toInt * k * 100 ∧
    (1 ≤ k → k ≤ 1311 → -4295884800 ≤ decodeCurrent raw k ∧ decodeCurrent raw k ≤ 4295753700)) ∧
  (∀ (raw : Half) (p : Nat), decodePower raw p = raw.toNat * p * 100 ∧
    (25 ≤ p → p ≤ 32775 → 0 ≤ decodePower raw p ∧ decodePower raw p ≤ 214790962500))

/-- 42_decoder.md section 1, as its R165 derives: every decoded value fits in RES without loss. -/
def Obligations.DecodedValuesFitTheResultRegister : Prop :=
  (∀ raw : Half, (toResult (decodeBus raw)).toInt = decodeBus raw) ∧
  (∀ raw : Half, (toResult (decodeShunt raw)).toInt = decodeShunt raw) ∧
  (∀ (raw : Half) (k : Nat), k < 2 ^ 16 → (toResult (decodeCurrent raw k)).toInt = decodeCurrent raw k) ∧
  (∀ (raw : Half) (p : Nat), p < 2 ^ 16 → (toResult (decodePower raw p)).toInt = decodePower raw p)

/-- 42_decoder.md section 1, as its R164 derives: the block's bus voltage exceeds the rejected formula
`raw + (raw >> 2)` mV by (raw mod 4) × 250 µV, so the two agree only when raw mod 4 = 0. -/
def Obligations.RejectedBusFormulaIsNotTheOneComputed : Prop :=
  ∀ (raw : Half) (s : State), ∃ t, exec (.decBus raw) s = .next t ∧
    t.res.toInt = 1000 * ((raw.toNat : Int) + (raw.toNat / 4 : Nat)) + 250 * (raw.toNat % 4 : Nat) ∧
    (t.res.toInt = 1000 * ((raw.toNat : Int) + (raw.toNat / 4 : Nat)) ↔ raw.toNat % 4 = 0)

/-- 42_decoder.md R155, DEC_BUS. -/
def Obligations.DecBusDecodesTheSample : Prop :=
  (∀ (w : Word) (raw : Half), decode w = .ok (.decBus raw) ↔
    w &&& 0xFFFF0000#32 = 0x50000000#32 ∧ raw = w.extractLsb' 0 16) ∧
  (∀ w : Word, w.extractLsb' 28 4 = 0x5#4 → w.extractLsb' 16 12 ≠ 0#12 → IllegalWord w) ∧
  (∀ (raw : Half) (s : State), exec (.decBus raw) s =
    .next { s with res := BitVec.ofInt 64 (raw.toNat * 1250), resValid := true, err := .none }) ∧
  decodeBus 0x0000#16 = 0 ∧ decodeBus 0xFFFF#16 = 81918750 ∧ decodeBus 0x8000#16 = 40960000 ∧
  decode 0x50002580#32 = .ok (.decBus 0x2580) ∧ decodeBus 0x2580#16 = 12000000

/-- 42_decoder.md R156, DEC_SHUNT. -/
def Obligations.DecShuntDecodesTheSample : Prop :=
  (∀ (w : Word) (raw : Half), decode w = .ok (.decShunt raw) ↔
    w &&& 0xFFFF0000#32 = 0x60000000#32 ∧ raw = w.extractLsb' 0 16) ∧
  (∀ w : Word, w.extractLsb' 28 4 = 0x6#4 → w.extractLsb' 16 12 ≠ 0#12 → IllegalWord w) ∧
  (∀ (raw : Half) (s : State), exec (.decShunt raw) s =
    .next { s with res := BitVec.ofInt 64 (raw.toInt * 2500), resValid := true, err := .none }) ∧
  decodeShunt 0x7FFF#16 = 81917500 ∧ decodeShunt 0x8000#16 = -81920000 ∧ decodeShunt 0xFFFF#16 = -2500 ∧
  decode 0x600003E8#32 = .ok (.decShunt 0x03E8) ∧ decodeShunt 0x03E8#16 = 2500000

/-- 42_decoder.md R157, DEC_CURRENT. -/
def Obligations.DecCurrentUsesTheCachedLsb : Prop :=
  (∀ (w : Word) (raw : Half), decode w = .ok (.decCurrent raw) ↔
    w &&& 0xFFFF0000#32 = 0x70000000#32 ∧ raw = w.extractLsb' 0 16) ∧
  (∀ w : Word, w.extractLsb' 28 4 = 0x7#4 → w.extractLsb' 16 12 ≠ 0#12 → IllegalWord w) ∧
  (∀ (raw : Half) (s : State), s.facade ≠ .calibrated →
    exec (.decCurrent raw) s = .next { s with resValid := false, err := .notCalibrated }) ∧
  (∀ (raw : Half) (s : State), s.facade = .calibrated →
    exec (.decCurrent raw) s = .next { s with
      res := BitVec.ofInt 64 (raw.toInt * s.curLsb.toNat * 100), resValid := true, err := .none }) ∧
  decodeCurrent 0x7FFF#16 1 = 3276700 ∧ decodeCurrent 0x8000#16 1 = -3276800 ∧
  decodeCurrent 0xFFFF#16 1 = -100 ∧
  decode 0x700003E8#32 = .ok (.decCurrent 0x03E8) ∧ decodeCurrent 0x03E8#16 1 = 100000

/-- 42_decoder.md R158, DEC_POWER. -/
def Obligations.DecPowerUsesTheCachedLsb : Prop :=
  (∀ (w : Word) (raw : Half), decode w = .ok (.decPower raw) ↔
    w &&& 0xFFFF0000#32 = 0x80000000#32 ∧ raw = w.extractLsb' 0 16) ∧
  (∀ w : Word, w.extractLsb' 28 4 = 0x8#4 → w.extractLsb' 16 12 ≠ 0#12 → IllegalWord w) ∧
  (∀ (raw : Half) (s : State), s.facade ≠ .calibrated →
    exec (.decPower raw) s = .next { s with resValid := false, err := .notCalibrated }) ∧
  (∀ (raw : Half) (s : State), s.facade = .calibrated →
    exec (.decPower raw) s = .next { s with
      res := BitVec.ofInt 64 (raw.toNat * s.pwrLsb.toNat * 100), resValid := true, err := .none }) ∧
  decodePower 0xFFFF#16 25 = 163837500 ∧ decodePower 0x8000#16 25 = 81920000 ∧
  decode 0x80000028#32 = .ok (.decPower 0x0028) ∧ decodePower 0x0028#16 25 = 100000

/-- 42_decoder.md R159, RD_BUS. -/
def Obligations.RdBusReadsAndDecodes : Prop :=
  (∀ w : Word, decode w = .ok .rdBus ↔ w &&& 0xFFFFFFFF#32 = 0x90000000#32) ∧
  (∀ w : Word, w.extractLsb' 28 4 = 0x9#4 → w.extractLsb' 0 28 ≠ 0#28 → IllegalWord w) ∧
  (∀ s : State, s.facade = .uninit →
    exec .rdBus s = .next { s with resValid := false, err := .notConfigured }) ∧
  (∀ s : State, s.facade ≠ .uninit → readValue (s.answer (readRequest 0x02#8)) = none →
    exec .rdBus s = .next { s.transact (readRequest 0x02#8) with resValid := false, err := .transport }) ∧
  (∀ (s : State) (v : Half), s.facade ≠ .uninit → readValue (s.answer (readRequest 0x02#8)) = some v →
    exec .rdBus s = .next { s.transact (readRequest 0x02#8) with
      res := BitVec.ofInt 64 (v.toNat * 1250), resValid := true, err := .none }) ∧
  readValue (.transfer 1 [0x25#8, 0x80#8]) = some 0x2580#16 ∧ decodeBus 0x2580#16 = 12000000

/-- 42_decoder.md R160, RD_SHUNT. -/
def Obligations.RdShuntReadsAndDecodes : Prop :=
  (∀ w : Word, decode w = .ok .rdShunt ↔ w &&& 0xFFFFFFFF#32 = 0xA0000000#32) ∧
  (∀ w : Word, w.extractLsb' 28 4 = 0xA#4 → w.extractLsb' 0 28 ≠ 0#28 → IllegalWord w) ∧
  (∀ s : State, s.facade = .uninit →
    exec .rdShunt s = .next { s with resValid := false, err := .notConfigured }) ∧
  (∀ s : State, s.facade ≠ .uninit → readValue (s.answer (readRequest 0x01#8)) = none →
    exec .rdShunt s = .next { s.transact (readRequest 0x01#8) with resValid := false, err := .transport }) ∧
  (∀ (s : State) (v : Half), s.facade ≠ .uninit → readValue (s.answer (readRequest 0x01#8)) = some v →
    exec .rdShunt s = .next { s.transact (readRequest 0x01#8) with
      res := BitVec.ofInt 64 (v.toInt * 2500), resValid := true, err := .none }) ∧
  readValue (.transfer 1 [0xFC#8, 0x18#8]) = some 0xFC18#16 ∧ decodeShunt 0xFC18#16 = -2500000 ∧
  readValue (.transfer 1 [0x03#8, 0xE8#8]) = some 0x03E8#16 ∧ decodeShunt 0x03E8#16 = 2500000

/-- 42_decoder.md R161, RD_CURRENT. A failed read leaves STATE and the cache as they are. -/
def Obligations.RdCurrentReadsAndDecodes : Prop :=
  (∀ w : Word, decode w = .ok .rdCurrent ↔ w &&& 0xFFFFFFFF#32 = 0xB0000000#32) ∧
  (∀ w : Word, w.extractLsb' 28 4 = 0xB#4 → w.extractLsb' 0 28 ≠ 0#28 → IllegalWord w) ∧
  (∀ s : State, s.facade ≠ .calibrated →
    exec .rdCurrent s = .next { s with resValid := false, err := .notCalibrated }) ∧
  (∀ s : State, s.facade = .calibrated → readValue (s.answer (readRequest 0x04#8)) = none →
    exec .rdCurrent s = .next { s.transact (readRequest 0x04#8) with resValid := false, err := .transport }) ∧
  (∀ (s : State) (v : Half), s.facade = .calibrated → readValue (s.answer (readRequest 0x04#8)) = some v →
    exec .rdCurrent s = .next { s.transact (readRequest 0x04#8) with
      res := BitVec.ofInt 64 (v.toInt * s.curLsb.toNat * 100), resValid := true, err := .none }) ∧
  readValue (.transfer 1 [0x03#8, 0xE8#8]) = some 0x03E8#16 ∧ decodeCurrent 0x03E8#16 1 = 100000 ∧
  decodeCurrent 0x7FFF#16 1 = 3276700 ∧ decodeCurrent 0x8000#16 1 = -3276800 ∧ decodeCurrent 0xFFFF#16 1 = -100

/-- 42_decoder.md R162, RD_POWER. -/
def Obligations.RdPowerReadsAndDecodes : Prop :=
  (∀ w : Word, decode w = .ok .rdPower ↔ w &&& 0xFFFFFFFF#32 = 0xC0000000#32) ∧
  (∀ w : Word, w.extractLsb' 28 4 = 0xC#4 → w.extractLsb' 0 28 ≠ 0#28 → IllegalWord w) ∧
  (∀ s : State, s.facade ≠ .calibrated →
    exec .rdPower s = .next { s with resValid := false, err := .notCalibrated }) ∧
  (∀ s : State, s.facade = .calibrated → readValue (s.answer (readRequest 0x03#8)) = none →
    exec .rdPower s = .next { s.transact (readRequest 0x03#8) with resValid := false, err := .transport }) ∧
  (∀ (s : State) (v : Half), s.facade = .calibrated → readValue (s.answer (readRequest 0x03#8)) = some v →
    exec .rdPower s = .next { s.transact (readRequest 0x03#8) with
      res := BitVec.ofInt 64 (v.toNat * s.pwrLsb.toNat * 100), resValid := true, err := .none }) ∧
  readValue (.transfer 1 [0x00#8, 0x28#8]) = some 0x0028#16 ∧ decodePower 0x0028#16 25 = 100000 ∧
  decodePower 0xFFFF#16 25 = 163837500 ∧ decodePower 0x8000#16 25 = 81920000

/-- 42_decoder.md R163, RD_RAW: legal in every STATE, zero-extended whatever the register. -/
def Obligations.RdRawReturnsTheRegisterUndecoded : Prop :=
  (∀ (w : Word) (off : Byte), decode w = .ok (.rdRaw off) ↔
    w &&& 0xFFFFFF00#32 = 0xD0000000#32 ∧ off = w.extractLsb' 0 8 ∧
      off ∈ [0x00#8, 0x01#8, 0x02#8, 0x03#8, 0x04#8, 0x05#8, 0x06#8, 0x07#8, 0xFF#8]) ∧
  (∀ w : Word, w.extractLsb' 28 4 = 0xD#4 →
    (w.extractLsb' 16 12 ≠ 0#12 ∨ w.extractLsb' 8 8 ≠ 0#8 ∨
      w.extractLsb' 0 8 ∉ [0x00#8, 0x01#8, 0x02#8, 0x03#8, 0x04#8, 0x05#8, 0x06#8, 0x07#8, 0xFF#8]) →
    IllegalWord w) ∧
  (∀ (off : Byte) (s : State),
    off ∈ [0x00#8, 0x01#8, 0x02#8, 0x03#8, 0x04#8, 0x05#8, 0x06#8, 0x07#8, 0xFF#8] →
    (readValue (s.answer (readRequest off)) = none →
      exec (.rdRaw off) s = .next { s.transact (readRequest off) with resValid := false, err := .transport }) ∧
    (∀ v, readValue (s.answer (readRequest off)) = some v →
      exec (.rdRaw off) s = .next { s.transact (readRequest off) with
        res := v.zeroExtend 64, resValid := true, err := .none })) ∧
  IllegalWord 0xD00000FE#32 ∧ decode 0xD00000FF#32 = .ok (.rdRaw 0xFF) ∧
  readValue (.transfer 1 [0x22#8, 0x60#8]) = some 0x2260#16

/-! ## Device control (43_device_control.md) -/

/-- 43_device_control.md R190, RESET: STATE becomes UNINIT on Ok and on Fail; the cached values, CALZ and CALOVF
stay. -/
def Obligations.ResetWritesTheResetWordAndLeavesUninit : Prop :=
  (∀ w : Word, decode w = .ok .reset ↔ w &&& 0xFFFFFFFF#32 = 0xE0000000#32) ∧
  (∀ w : Word, w.extractLsb' 28 4 = 0xE#4 → w.extractLsb' 0 28 ≠ 0#28 → IllegalWord w) ∧
  writeRequest 0x00#8 0x8000#16 = .write Config.pDevAddr [0x00#8, 0x80#8, 0x00#8] ∧
  (∀ s : State, writeOk (s.answer (writeRequest 0x00#8 0x8000#16)) = true →
    exec .reset s = .next { s.transact (writeRequest 0x00#8 0x8000#16) with
      facade := .uninit, res := 0x8000#64, resValid := true, err := .none }) ∧
  (∀ s : State, writeOk (s.answer (writeRequest 0x00#8 0x8000#16)) = false →
    exec .reset s = .next { s.transact (writeRequest 0x00#8 0x8000#16) with
      facade := .uninit, resValid := false, err := .transport }) ∧
  (∀ (raw : Half) (s t : State), exec .reset s = .next t →
    exec (.decCurrent raw) t = .next { t with resValid := false, err := .notCalibrated })

/-- 43_device_control.md R191, PING: RES says whether the identity constant was read; a failed read gives RES = 0
with RES_VALID = 1 and ERR = TRANSPORT. -/
def Obligations.PingComparesTheIdentityConstant : Prop :=
  (∀ w : Word, decode w = .ok .ping ↔ w &&& 0xFFFFFFFF#32 = 0xF0000000#32) ∧
  (∀ w : Word, w.extractLsb' 28 4 = 0xF#4 → w.extractLsb' 0 28 ≠ 0#28 → IllegalWord w) ∧
  (∀ s : State, readValue (s.answer (readRequest 0xFF#8)) = none →
    exec .ping s = .next { s.transact (readRequest 0xFF#8) with
      res := 0#64, resValid := true, err := .transport }) ∧
  (∀ s : State, readValue (s.answer (readRequest 0xFF#8)) = some 0x2260#16 →
    exec .ping s = .next { s.transact (readRequest 0xFF#8) with res := 1#64, resValid := true, err := .none }) ∧
  (∀ (s : State) (v : Half), readValue (s.answer (readRequest 0xFF#8)) = some v → v ≠ 0x2260#16 →
    exec .ping s = .next { s.transact (readRequest 0xFF#8) with res := 0#64, resValid := true, err := .none }) ∧
  readValue (.transfer 1 [0x22#8, 0x60#8]) = some 0x2260#16 ∧
  readValue (.transfer 1 [0x60#8, 0x22#8]) = some 0x6022#16

/-! ## The whole machine: status, errors, state transitions and frames -/

/-- 10_state.md R34 and R35: what each output port shows, that driving the input ports changes no output and that
only a command changes what the host reads (DONE and a block reset apart), and the layout of STATUS. -/
def Obligations.StatusPacksTheStatusRegisters : Prop :=
  ∀ s : State,
    s.status.extractLsb' 0 2 =
      (match s.facade with | .uninit => 0#2 | .configured => 1#2 | .calibrated => 2#2) ∧
    s.status.getLsbD 2 = s.resValid ∧ s.status.extractLsb' 3 3 = errCode s.err ∧
    s.status.getLsbD 6 = s.calz ∧ s.status.getLsbD 7 = s.calovf ∧ s.status.extractLsb' 8 8 = 0#8 ∧
    s.outputs.status = s.status ∧ s.outputs.res = s.res ∧ s.outputs.lsbCur = s.curLsb ∧
    s.outputs.lsbPwr = s.pwrLsb ∧ s.outputs.cal = s.calVal ∧ s.outputs.done = s.done ∧
    (∀ (cmd opa opb : Word) (valid : Bool),
      { s with cmd := cmd, opa := opa, opb := opb, cmdValid := valid }.outputs = s.outputs) ∧
    (∀ t, s.takesCommand = false → (∀ rest, s.hostActions ≠ .blockReset :: rest) → step s = .next t →
      t.outputs = { s.outputs with done := t.done })

/-- 10_state.md R29: the codes of ERR; code 7 is never written; every command writes ERR, whatever it held: NONE
exactly when the command succeeds (with PING the one command that has a result beside an error). -/
def Obligations.ErrHoldsTheOutcomeOfTheLastCommand : Prop :=
  (errCode .none = 0#3 ∧ errCode .transport = 1#3 ∧ errCode .calPrecondition = 2#3 ∧
    errCode .calVerifyMismatch = 3#3 ∧ errCode .illegalCmd = 4#3 ∧ errCode .notConfigured = 5#3 ∧
    errCode .notCalibrated = 6#3) ∧
  (∀ e, errCode e ≠ 7#3) ∧
  (∀ (i : Instr) (s t : State) (e : ErrKind), exec i s = .next t →
    (∃ t', exec i { s with err := e } = .next t' ∧ t'.err = t.err) ∧
      (i ≠ .ping → (t.err = .none ↔ t.resValid = true)))

/-- 10_state.md R28: RES_VALID says whether the command writes RES. A command that sets it gives the same
result whatever RES held; a command that clears it leaves RES as it was. -/
def Obligations.ResValidSaysWhetherResIsWritten : Prop :=
  ∀ (i : Instr) (s t : State) (x : Result), exec i s = .next t →
    (t.resValid = true → exec i { s with res := x } = .next t) ∧
    (t.resValid = false → t.res = s.res ∧ exec i { s with res := x } = .next { t with res := x })

/-- 10_state.md R30 with 41_calibration.md R125 and R126: CALZ and CALOVF are written by CAL_DERIVE and CALIBRATE
alone, once the derivation has run, and describe the value derived. -/
def Obligations.CalibrationFlagsAreWrittenOnlyByADerivation : Prop :=
  ∀ (i : Instr) (s t : State), exec i s = .next t →
    (s.opa ≠ 0#32 → s.opb ≠ 0#32 → (i = .calDerive ∨ (i = .calibrate ∧ s.facade ≠ .uninit)) →
      (t.calz = true ↔ (deriveCal s.opa.toNat s.opb.toNat).c = 0#16) ∧
      (t.calovf = true ↔ 0xFFFF < calFullOf s.opa.toNat (currentLsbOf s.opb.toNat))) ∧
    ((s.opa = 0#32 ∨ s.opb = 0#32 ∨ (i ≠ .calDerive ∧ (i ≠ .calibrate ∨ s.facade = .uninit))) →
      t.calz = s.calz ∧ t.calovf = s.calovf)

/-- 41_calibration.md R131 with 10_state.md R23 to R25: the cache is written by a successful CALIBRATE alone, all
of it at once and together with STATE. -/
def Obligations.CacheIsWrittenOnlyByASuccessfulCalibrate : Prop :=
  ∀ (i : Instr) (s t : State), exec i s = .next t →
    (i = .calibrate → t.err = .none →
      t.curLsb = (deriveCal s.opa.toNat s.opb.toNat).k ∧ t.pwrLsb = (deriveCal s.opa.toNat s.opb.toNat).p ∧
      t.calVal = (deriveCal s.opa.toNat s.opb.toNat).c ∧ t.facade = .calibrated) ∧
    ((i ≠ .calibrate ∨ t.err ≠ .none) →
      t.curLsb = s.curLsb ∧ t.pwrLsb = s.pwrLsb ∧ t.calVal = s.calVal)

/-- 20_memory.md R66: what makes the cache valid and what invalidates it. -/
def Obligations.CacheValidityChangesOnlyAsStated : Prop :=
  ∀ (i : Instr) (s t : State), exec i s = .next t →
    (s.facade ≠ .calibrated → t.facade = .calibrated → i = .calibrate ∧ t.err = .none) ∧
    (s.facade = .calibrated → (t.facade ≠ .calibrated ↔
      i = .reset ∨ (i = .calibrate ∧ (t.err = .transport ∨ t.err = .calVerifyMismatch)))) ∧
    (t.facade ≠ .calibrated → t.curLsb = s.curLsb ∧ t.pwrLsb = s.pwrLsb ∧ t.calVal = s.calVal)

/-- The table of state transitions that 10_state.md section 4 collects. -/
def Obligations.StateChangesOnlyAsTheTableSays : Prop :=
  ∀ (i : Instr) (s t : State), exec i s = .next t →
    (∀ a b v m, i = .cfgApply a b v m →
      (t.err = .none ∧ t.facade = (if s.facade = .uninit then .configured else s.facade)) ∨
      (t.err = .transport ∧ t.facade = s.facade)) ∧
    (i = .calibrate →
      (s.facade = .uninit ∧ t.err = .notConfigured ∧ t.facade = .uninit) ∨
      (s.facade ≠ .uninit ∧ t.err = .calPrecondition ∧ t.facade = s.facade) ∨
      (s.facade ≠ .uninit ∧ (t.err = .transport ∨ t.err = .calVerifyMismatch) ∧ t.facade = .configured) ∨
      (s.facade ≠ .uninit ∧ t.err = .none ∧ t.facade = .calibrated)) ∧
    (i = .reset → t.facade = .uninit) ∧
    ((∀ a b v m, i ≠ .cfgApply a b v m) → i ≠ .calibrate → i ≠ .reset → t.facade = s.facade)

/-- 60_exceptions.md R212: the effect of an error, with the writes made before the raise (CALZ, CALOVF and the
invalidation in CALIBRATE, STATE in RESET) and the exception of PING. -/
def Obligations.ErrorsLeaveTheResultAndKeepEarlierWrites : Prop :=
  ∀ (i : Instr) (s t : State), exec i s = .next t → t.err ≠ .none →
    (i ≠ .ping → t.resValid = false ∧ t.res = s.res) ∧
    (i = .ping → t.err = .transport ∧ t.resValid = true ∧ t.res = 0#64) ∧
    (t.curLsb = s.curLsb ∧ t.pwrLsb = s.pwrLsb ∧ t.calVal = s.calVal) ∧
    (i = .reset → t.facade = .uninit) ∧
    (i = .calibrate → (t.err = .transport ∨ t.err = .calVerifyMismatch) →
      t.facade = .configured ∧ t.calz = (deriveCal s.opa.toNat s.opb.toNat).z ∧
      t.calovf = (deriveCal s.opa.toNat s.opb.toNat).ovf) ∧
    ((i ≠ .calibrate ∨ (t.err ≠ .transport ∧ t.err ≠ .calVerifyMismatch)) →
      t.calz = s.calz ∧ t.calovf = s.calovf ∧ (i ≠ .reset → t.facade = s.facade))

/-- 60_exceptions.md R211 and R213: each error kind has exactly its causes, checked in priority order, and a
command refused before its transactions makes none. -/
def Obligations.ErrorKindsHaveTheirCausesInPriorityOrder : Prop :=
  (errCode .transport = 1#3 ∧ errCode .calPrecondition = 2#3 ∧ errCode .calVerifyMismatch = 3#3 ∧
    errCode .illegalCmd = 4#3 ∧ errCode .notConfigured = 5#3 ∧ errCode .notCalibrated = 6#3) ∧
  ∀ s t : State, s.cmdValid = true → s.done = false → step s = .next t →
    (∀ e, decode s.cmd = .error e → t.err = .illegalCmd ∧ t.busLog = s.busLog) ∧
    (∀ i, decode s.cmd = .ok i → ∃ new, t.busLog = s.busLog ++ new ∧ t.err ≠ .illegalCmd ∧
      (t.err = .notConfigured ↔ needsConfigured i = true ∧ s.facade = .uninit) ∧
      (t.err = .notCalibrated ↔ needsCalibrated i = true ∧ s.facade ≠ .calibrated) ∧
      (t.err = .calPrecondition ↔
        (i = .calDerive ∨ (i = .calibrate ∧ s.facade ≠ .uninit)) ∧ (s.opa = 0#32 ∨ s.opb = 0#32)) ∧
      (t.err = .transport ↔ ∃ tr ∈ new, tr.failed = true) ∧
      (t.err = .calVerifyMismatch ↔ i = .calibrate ∧ ∃ written readBack v,
        new = [⟨writeRequest 0x05#8 (deriveCal s.opa.toNat s.opb.toNat).c, written⟩,
          ⟨readRequest 0x05#8, readBack⟩] ∧
        writeOk written = true ∧ readValue readBack = some v ∧
        v ≠ (deriveCal s.opa.toNat s.opb.toNat).c) ∧
      (t.err = .notConfigured ∨ t.err = .notCalibrated ∨ t.err = .calPrecondition → new = []))

/-- 60_exceptions.md R214: the next command is taken as if the error had not been: its step does not depend on
ERR or RES_VALID, and it is never stuck. -/
def Obligations.ErrorsDoNotAffectTheNextCommand : Prop :=
  ∀ (s : State) (e : ErrKind) (b : Bool), s.cmdValid = true → s.done = false →
    step { s with err := e, resValid := b } = step s ∧ ∃ t, step s = .next t

/-- 10_state.md section 5: every command but CAL_DERIVE and CALIBRATE ignores OPA and OPB. -/
def Obligations.OtherCommandsIgnoreTheOperandPorts : Prop :=
  ∀ (i : Instr) (s t : State) (a b : Word), i ≠ .calDerive → i ≠ .calibrate → exec i s = .next t →
    exec i { s with opa := a, opb := b } = .next { t with opa := a, opb := b }

/-- The values 10_state.md section 6 leaves unspecified never reach anything else: two states that differ only in
the cache outside CALIBRATED, and in RES while RES_VALID = 0, still differ only so after a step. -/
def Obligations.UnspecifiedValuesNeverReachAnotherResult : Prop :=
  ∀ s t s' : State, s.SameButUnspecified t → step s = .next s' →
    ∃ t', step t = .next t' ∧ s'.SameButUnspecified t'

/-- The invariant that 10_state.md section 2 derives of CALIBRATED (the ranges of the cache, and CAL_VAL as
written and read back on the bus, 41_calibration.md section 4), with the handshake, is kept by every step. That
DONE implies CMD_VALID is the handshake of 10_state.md section 5 (R37) as log entry 5 reads it (DEDUCED: DONE falls
with CMD_VALID). -/
def Obligations.EveryStepKeepsTheCacheInvariant : Prop :=
  ∀ s t : State, s.Inv → step s = .next t → t.Inv

/-- The invariant holds right after a block reset. -/
def Obligations.ResetMeetsTheCacheInvariant : Prop := State.reset.Inv

/-- 20_memory.md sections 1 and 2: every step keeps the history of transactions within the nine offsets of the
map, all to P_DEV_ADDR, with writes to Configuration and Calibration only. -/
def Obligations.EveryStepKeepsTheBusWithinTheMap : Prop :=
  ∀ s t : State, s.BusLogOk → step s = .next t → t.BusLogOk

/-- The bring-up order of 70_reset_and_hazards.md section 2: from any state, for any codes and any positive
operands, there are answers of the bus with which CFG_APPLY and CALIBRATE succeed, and then DEC_CURRENT and
DEC_POWER decode with the LSBs derived. The LSBs are those of 41_calibration.md section 2 and the results those of
42_decoder.md sections 1 and 2; that the bus may answer so is 20_memory.md section 2 (R61), said through the list of
answers that is the model's own (DESIGN CHOICE, log entry 1). -/
def Obligations.BringUpReachesCalibratedDecodes : Prop :=
  ∀ (s : State) (a b v m : Code) (r i : Word), r ≠ 0#32 → i ≠ 0#32 →
    ∃ (script : List BusAnswer) (t u : State),
      exec (.cfgApply a b v m) { s with opa := r, opb := i, busScript := script } = .next t ∧
      t.err = .none ∧ exec .calibrate t = .next u ∧ u.err = .none ∧ u.facade = .calibrated ∧
      (∀ raw, exec (.decCurrent raw) u = .next { u with
        res := BitVec.ofInt 64 (raw.toInt * currentLsbOf i.toNat * 100), resValid := true, err := .none }) ∧
      (∀ raw, exec (.decPower raw) u = .next { u with
        res := BitVec.ofInt 64 (raw.toNat * (25 * currentLsbOf i.toNat : Nat) * 100), resValid := true,
        err := .none })

/-! ## Assembler (30_encoding.md) -/

/-- 30_encoding.md section 6, on mnemonics with the values of their operands: whatever assembles is a legal command,
with values for OPA and OPB exactly for the F-CAL commands; each mnemonic takes its number of operands; with operands
in range the word is that of the command named with those operands (a raw16 as its value mod 2^16, the resistance and
the current unchanged on OPA and OPB); with an operand out of range nothing is assembled. -/
def Obligations.AssembledLinesAreLegalCommands : Prop :=
  (∀ (m : Mnemonic) (xs : List Int) (a : Assembled), assemble m xs = some a →
    xs.length = operandCount m ∧
    ∃ i, decode a.word = .ok i ∧ (a.operands.isSome = true ↔ i = .calDerive ∨ i = .calibrate)) ∧
  (∀ a b v m : Int,
    ((0 ≤ a ∧ a ≤ 7) ∧ (0 ≤ b ∧ b ≤ 7) ∧ (0 ≤ v ∧ v ≤ 7) ∧ (0 ≤ m ∧ m ≤ 7) →
      ∃ ca cb cv cm : Code, (ca.toNat : Int) = a ∧ (cb.toNat : Int) = b ∧ (cv.toNat : Int) = v ∧
        (cm.toNat : Int) = m ∧ AssemblesTo (assemble .cfgPack [a, b, v, m]) (.cfgPack ca cb cv cm) none ∧
        AssemblesTo (assemble .cfgApply [a, b, v, m]) (.cfgApply ca cb cv cm) none) ∧
    (¬((0 ≤ a ∧ a ≤ 7) ∧ (0 ≤ b ∧ b ≤ 7) ∧ (0 ≤ v ∧ v ≤ 7) ∧ (0 ≤ m ∧ m ≤ 7)) →
      assemble .cfgPack [a, b, v, m] = none ∧ assemble .cfgApply [a, b, v, m] = none)) ∧
  (∀ x : Int,
    (-32768 ≤ x ∧ x ≤ 65535 → ∃ raw : Half, (raw.toNat : Int) = x % 2 ^ 16 ∧
      AssemblesTo (assemble .decBus [x]) (.decBus raw) none ∧
      AssemblesTo (assemble .decShunt [x]) (.decShunt raw) none ∧
      AssemblesTo (assemble .decCurrent [x]) (.decCurrent raw) none ∧
      AssemblesTo (assemble .decPower [x]) (.decPower raw) none) ∧
    (¬(-32768 ≤ x ∧ x ≤ 65535) → assemble .decBus [x] = none ∧ assemble .decShunt [x] = none ∧
      assemble .decCurrent [x] = none ∧ assemble .decPower [x] = none)) ∧
  (∀ x : Int,
    (x ∈ [0, 1, 2, 3, 4, 5, 6, 7, 255] → ∃ off : Byte, (off.toNat : Int) = x ∧
      AssemblesTo (assemble .rdRaw [x]) (.rdRaw off) none) ∧
    (x ∉ [0, 1, 2, 3, 4, 5, 6, 7, 255] → assemble .rdRaw [x] = none)) ∧
  (∀ r i : Int,
    ((0 ≤ r ∧ r < 2 ^ 32) ∧ (0 ≤ i ∧ i < 2 ^ 32) →
      ∃ opa opb : Word, (opa.toNat : Int) = r ∧ (opb.toNat : Int) = i ∧
        AssemblesTo (assemble .calDerive [r, i]) .calDerive (some (opa, opb)) ∧
        AssemblesTo (assemble .calibrate [r, i]) .calibrate (some (opa, opb))) ∧
    (¬((0 ≤ r ∧ r < 2 ^ 32) ∧ (0 ≤ i ∧ i < 2 ^ 32)) →
      assemble .calDerive [r, i] = none ∧ assemble .calibrate [r, i] = none)) ∧
  AssemblesTo (assemble .rdBus []) .rdBus none ∧ AssemblesTo (assemble .rdShunt []) .rdShunt none ∧
  AssemblesTo (assemble .rdCurrent []) .rdCurrent none ∧ AssemblesTo (assemble .rdPower []) .rdPower none ∧
  AssemblesTo (assemble .reset []) .reset none ∧ AssemblesTo (assemble .ping []) .ping none

/-- 30_encoding.md R79: each pseudo-instruction is one command. -/
def Obligations.PseudoInstructionsExpandToOneCommand : Prop :=
  (∀ a b s m : Int, assemble .configure [a, b, s, m] = assemble .cfgApply [a, b, s, m]) ∧
  assemble .rdCfg [] = assemble .rdRaw [0x00] ∧ assemble .rdCal [] = assemble .rdRaw [0x05] ∧
  assemble .rdMask [] = assemble .rdRaw [0x06] ∧ assemble .rdAlert [] = assemble .rdRaw [0x07] ∧
  assemble .rdId [] = assemble .rdRaw [0xFF] ∧ assemble .rdBusRaw [] = assemble .rdRaw [0x02] ∧
  assemble .rdShuntRaw [] = assemble .rdRaw [0x01] ∧ assemble .rdCurrentRaw [] = assemble .rdRaw [0x04] ∧
  assemble .rdPowerRaw [] = assemble .rdRaw [0x03] ∧ ∃ x, assemble .rdRaw [0x03] = some x

/-- 30_encoding.md section 6, on text: a line of a mnemonic and its numbers, decimal, signed decimal or `0x`
hexadecimal, separated by commas, assembles as the mnemonic with those values; a comment after `;` changes nothing;
and no other line assembles to anything a mnemonic does not. How blanks, commas and comments are read is the model's
choice (DESIGN CHOICE, log entry 15). -/
def Obligations.LinesOfTextAreReadAsTheirMnemonicAndNumbers : Prop :=
  (∀ m : Mnemonic, assembleLine m.name = assemble m []) ∧
  (∀ (m : Mnemonic) (blanks : List Char) (operands : List (List Char × Int)),
    blanks ≠ [] → (∀ c ∈ blanks, c = ' ') → operands ≠ [] → (∀ o ∈ operands, Spells o.1 o.2) →
    assembleLine (String.ofList (m.name.toList ++ blanks ++ joinOperands (operands.map Prod.fst))) =
      assemble m (operands.map Prod.snd)) ∧
  (∀ line comment : List Char, ';' ∉ line →
    assembleLine (String.ofList (line ++ ';' :: comment)) = assembleLine (String.ofList line)) ∧
  (∀ (line : String) (a : Assembled), assembleLine line = some a →
    ∃ (m : Mnemonic) (xs : List Int), assemble m xs = some a)
end

