-- ==== Sys2Proof/Laws/Assembler.lean ====
section
/-! SUPPORT. The assembler's parts, each said once: an operand in range and out of range, how written numbers are
read, and how a line is cut. -/

namespace Sys2Proof.Machine

/-! ## Operands -/

theorem asmCode_some {x : Int} (h : 0 ≤ x ∧ x ≤ 7) : ∃ c, asmCode x = some c ∧ (c.toNat : Int) = x := by
  refine ⟨_, if_pos h, ?_⟩
  rw [BitVec.toNat_ofInt]
  omega

theorem asmCode_none {x : Int} (h : ¬(0 ≤ x ∧ x ≤ 7)) : asmCode x = none := if_neg h

theorem asmRaw_some {x : Int} (h : -32768 ≤ x ∧ x ≤ 65535) :
    ∃ raw, asmRaw x = some raw ∧ (raw.toNat : Int) = x % 2 ^ 16 := by
  refine ⟨_, if_pos h, ?_⟩
  rw [BitVec.toNat_ofInt]
  omega

theorem asmRaw_none {x : Int} (h : ¬(-32768 ≤ x ∧ x ≤ 65535)) : asmRaw x = none := if_neg h

theorem asmWord_some {x : Int} (h : 0 ≤ x ∧ x < 2 ^ 32) : ∃ w, asmWord x = some w ∧ (w.toNat : Int) = x := by
  refine ⟨_, if_pos h, ?_⟩
  rw [BitVec.toNat_ofInt]
  omega

theorem asmWord_none {x : Int} (h : ¬(0 ≤ x ∧ x < 2 ^ 32)) : asmWord x = none := if_neg h

/-! ## Numbers -/

theorem digitValue_digitChar {base d : Nat} (hd : d < base) (hb : base ≤ 16) :
    digitValue base (Nat.digitChar d) = some d := by
  have h16 : d < 16 := by omega
  interval_cases d <;> simp [digitValue, Nat.digitChar] <;> omega

theorem digitChar_mem {d : Nat} (hd : d < 16) : Nat.digitChar d ∉ [' ', '\t', ',', ';', '-', 'x'] := by
  interval_cases d <;> decide

theorem digitsFrom_append (base acc : Nat) (cs ds : List Char) :
    digitsFrom base acc (cs ++ ds) = (digitsFrom base acc cs).bind fun a => digitsFrom base a ds := by
  induction cs generalizing acc with
  | nil => rfl
  | cons c cs ih =>
    simp only [List.cons_append, digitsFrom]
    split
    · exact ih _
    · rfl

/-- The digits of a number are read back as that number. -/
theorem digitsFrom_toDigits {base : Nat} (h1 : 1 < base) (h2 : base ≤ 16) (n : Nat) :
    digitsFrom base 0 (Nat.toDigits base n) = some n := by
  induction n using Nat.strong_induction_on with
  | _ n ih =>
    by_cases hn : n < base
    · rw [Nat.toDigits_of_lt_base hn]
      simp [digitsFrom, digitValue_digitChar hn h2]
    · have hm := Nat.mod_lt n (show 0 < base by omega)
      rw [Nat.toDigits_of_base_le h1 (by omega), digitsFrom_append, ih _ (Nat.div_lt_self (by omega) h1)]
      simp only [Option.bind_some, digitsFrom, digitValue_digitChar hm h2]
      rw [Nat.div_add_mod']

theorem parseDigits_toDigits {base : Nat} (h1 : 1 < base) (h2 : base ≤ 16) (n : Nat) :
    parseDigits base (Nat.toDigits base n) = some n := by
  have h := digitsFrom_toDigits h1 h2 n
  cases hd : Nat.toDigits base n with
  | nil => exact absurd hd Nat.toDigits_ne_nil
  | cons c cs => rwa [hd] at h

/-- No digit separates anything. -/
theorem toDigits_mem {base : Nat} (h1 : 1 < base) (h2 : base ≤ 16) (n : Nat) :
    ∀ c ∈ Nat.toDigits base n, c ∉ [' ', '\t', ',', ';', '-', 'x'] := by
  induction n using Nat.strong_induction_on with
  | _ n ih =>
    by_cases hn : n < base
    · rw [Nat.toDigits_of_lt_base hn]
      intro c hc
      rw [List.mem_singleton.1 hc]
      exact digitChar_mem (by omega)
    · have hm := Nat.mod_lt n (show 0 < base by omega)
      rw [Nat.toDigits_of_base_le h1 (by omega)]
      intro c hc
      rcases List.mem_append.1 hc with hc | hc
      · exact ih _ (Nat.div_lt_self (by omega) h1) c hc
      · rw [List.mem_singleton.1 hc]
        exact digitChar_mem (by omega)

/-- A written number is read as its value. -/
theorem parseNumber_spells {t : List Char} {x : Int} (h : Spells t x) : parseNumber t = some x := by
  cases h with
  | decimal n =>
    have h := parseDigits_toDigits (base := 10) (by decide) (by decide) n
    have hm := toDigits_mem (base := 10) (by decide) (by decide) n
    unfold parseNumber
    split
    · rename_i heq
      exact absurd (by decide) (hm '-' (by rw [heq]; simp))
    · rename_i heq
      exact absurd (by decide) (hm 'x' (by rw [heq]; simp))
    · rw [h]
      rfl
  | hexadecimal n => simp [parseNumber, parseDigits_toDigits (base := 16) (by decide) (by decide) n]
  | negative n => simp [parseNumber, parseDigits_toDigits (base := 10) (by decide) (by decide) n]

/-- A written number is not empty, and nothing in it separates anything. -/
theorem spells_mem {t : List Char} {x : Int} (h : Spells t x) :
    t ≠ [] ∧ ∀ c ∈ t, c ∉ [' ', '\t', ',', ';'] := by
  have hd : ∀ {base : Nat}, 1 < base → base ≤ 16 → ∀ n, ∀ c ∈ Nat.toDigits base n, c ∉ [' ', '\t', ',', ';'] := by
    intro base h1 h2 n c hc hs
    exact toDigits_mem h1 h2 n c hc (List.mem_append_left ['-', 'x'] hs)
  cases h with
  | decimal n => exact ⟨Nat.toDigits_ne_nil, hd (by decide) (by decide) n⟩
  | hexadecimal n =>
    refine ⟨List.cons_ne_nil _ _, fun c hc => ?_⟩
    rcases List.mem_cons.1 hc with rfl | hc
    · decide
    rcases List.mem_cons.1 hc with rfl | hc
    · decide
    · exact hd (by decide) (by decide) n c hc
  | negative n =>
    refine ⟨List.cons_ne_nil _ _, fun c hc => ?_⟩
    rcases List.mem_cons.1 hc with rfl | hc
    · decide
    · exact hd (by decide) (by decide) n c hc

/-! ## Lines -/

theorem cutAt_of_not_mem {c : Char} {cs : List Char} (h : c ∉ cs) : cutAt c cs = (cs, none) := by
  induction cs with
  | nil => rfl
  | cons x xs ih =>
    rw [List.mem_cons, not_or] at h
    simp [cutAt, ih h.2, Ne.symm h.1]

theorem cutAt_append {c : Char} {cs : List Char} (ds : List Char) (h : c ∉ cs) :
    cutAt c (cs ++ c :: ds) = (cs, some ds) := by
  induction cs with
  | nil => simp [cutAt]
  | cons x xs ih =>
    rw [List.mem_cons, not_or] at h
    simp [cutAt, ih h.2, Ne.symm h.1]

/-- Blanks before a text that neither begins nor ends with one are all that is trimmed. -/
theorem trimBlanks_append {bs cs : List Char} (hb : ∀ c ∈ bs, isBlank c = true)
    (h1 : ∀ c ∈ cs.head?, isBlank c = false) (h2 : ∀ c ∈ cs.getLast?, isBlank c = false) :
    trimBlanks (bs ++ cs) = cs := by
  have hkeep : ∀ ds : List Char, (∀ c ∈ ds.head?, isBlank c = false) → ds.dropWhile isBlank = ds := by
    intro ds hd
    cases ds with
    | nil => rfl
    | cons d ds => simp [List.dropWhile, hd d rfl]
  unfold trimBlanks
  rw [List.dropWhile_append_of_pos hb, hkeep cs h1, hkeep _ (by rwa [List.head?_reverse]), List.reverse_reverse]

theorem mnemonicOf_name (m : Mnemonic) : mnemonicOf m.name.toList = some m := by
  cases m <;> rfl

/-- A mnemonic's name is one word without a semicolon. -/
theorem mnemonic_name_mem (m : Mnemonic) :
    m.name.toList ≠ [] ∧ ∀ c ∈ m.name.toList, isBlank c = false ∧ c ≠ ';' := by
  cases m <;> simp [Mnemonic.name, isBlank]

end Sys2Proof.Machine
end

