-- ==== Sys2Proof/Laws/Calibration.lean ====
section
/-! SUPPORT. The arithmetic of the derivation, the flags and the decode functions, each said once in plain integer
terms. -/

namespace Sys2Proof.Machine

@[simp] theorem currentScale_eq : currentScale = 3276700 := rfl
@[simp] theorem powerRatio_eq : powerRatio = 25 := rfl
@[simp] theorem calNumerator_eq : calNumerator = 51200000 := rfl
@[simp] theorem busLsb_eq : busLsb = 1250 := rfl
@[simp] theorem shuntLsb_eq : shuntLsb = 2500 := rfl
@[simp] theorem lsbUnit_eq : lsbUnit = 100 := rfl
@[simp] theorem identityWord_eq : identityWord = 0x2260#16 := rfl
@[simp] theorem resetWord_eq : resetWord = 0x8000#16 := rfl

/-- `ceil_div(a, b)` is the smallest integer `q` with `q * b >= a` (00_scope.md R7), as two bounds. -/
theorem ceilDiv_bounds {a b : Nat} (hb : 0 < b) : a ≤ ceilDiv a b * b ∧ ceilDiv a b * b < a + b := by
  have hab := Nat.div_add_mod a b
  have hlt := Nat.mod_lt a hb
  rw [Nat.mul_comm] at hab
  unfold ceilDiv
  split
  · omega
  · rw [Nat.add_mul]
    omega

/-- k as two bounds; to be used instead of unfolding `currentLsbOf`. -/
theorem currentLsbOf_bounds (i : Nat) :
    i ≤ currentLsbOf i * 3276700 ∧ currentLsbOf i * 3276700 < i + 3276700 :=
  ceilDiv_bounds (by decide)

theorem currentLsbOf_pos {i : Nat} (hi : 1 ≤ i) : 1 ≤ currentLsbOf i := by
  have h := currentLsbOf_bounds i
  omega

theorem currentLsbOf_le {i : Nat} (hi : i < 2 ^ 32) : currentLsbOf i ≤ 1311 := by
  have h := currentLsbOf_bounds i
  omega

@[simp] theorem powerLsbOf_eq (k : Nat) : powerLsbOf k = 25 * k := rfl

theorem calFullOf_eq (r k : Nat) : calFullOf r k = 51200000 / (k * r) := rfl

@[simp] theorem toNat_low16 (n : Nat) : (low16 n).toNat = n % 2 ^ 16 := rfl

@[simp] theorem calzFlag_iff (c : Half) : calzFlag c = true ↔ c = 0#16 := beq_iff_eq

@[simp] theorem calovfFlag_iff (n : Nat) : calovfFlag n = true ↔ 0xFFFF < n := decide_eq_true_iff

theorem deriveCal_k (r i : Nat) : (deriveCal r i).k = low16 (currentLsbOf i) := rfl
theorem deriveCal_p (r i : Nat) : (deriveCal r i).p = low16 (powerLsbOf (currentLsbOf i)) := rfl
theorem deriveCal_c (r i : Nat) : (deriveCal r i).c = low16 (calFullOf r (currentLsbOf i)) := rfl
theorem deriveCal_z (r i : Nat) : (deriveCal r i).z = calzFlag (deriveCal r i).c := rfl
theorem deriveCal_ovf (r i : Nat) : (deriveCal r i).ovf = calovfFlag (calFullOf r (currentLsbOf i)) := rfl

theorem State.derived_eq (s : State) : s.derived = deriveCal s.opa.toNat s.opb.toNat := rfl

/-! ## Decode functions -/

theorem uint_eq (raw : Half) : uint raw = raw.toNat := rfl
theorem sint_eq (raw : Half) : sint raw = raw.toInt := rfl

end Sys2Proof.Machine
end

