-- ==== Sys2Proof/Laws/Decode.lean ====
section
/-! SUPPORT. The fields of an encoded word, and the masks of the opcode map. -/

namespace Sys2Proof

@[simp] theorem opField_commandWord (op : BitVec 4) (imm : Half) : opField (commandWord op imm) = op := by
  ext i hi
  simp [opField, commandWord, show 28 + i < 32 by omega, BitVec.getLsbD_eq_getElem hi,
    BitVec.getLsbD_of_ge imm (28 + i) (by omega)]

@[simp] theorem rsvField_commandWord (op : BitVec 4) (imm : Half) : rsvField (commandWord op imm) = 0#12 := by
  ext i hi
  simp [rsvField, commandWord, show 16 + i < 28 by omega]

@[simp] theorem immField_commandWord (op : BitVec 4) (imm : Half) : immField (commandWord op imm) = imm := by
  ext i hi
  simp [immField, commandWord, show i < 28 by omega, show i < 32 by omega, BitVec.getLsbD_eq_getElem hi]

/-- A field of IMM stands at the same place of the word. -/
theorem extractLsb'_commandWord (op : BitVec 4) (imm : Half) (start len : Nat) (h : start + len ≤ 16) :
    (commandWord op imm).extractLsb' start len = imm.extractLsb' start len := by
  ext i hi
  simp [commandWord, show start + i < 28 by omega, show start + i < 32 by omega]

@[simp] theorem z4Field_cfgImm (a b v m : Code) : (cfgImm a b v m).extractLsb' 12 4 = 0#4 := by
  ext i hi
  simp [cfgImm, show ¬ 12 + i < 9 by omega, BitVec.getLsbD_of_ge a (12 + i - 9) (by omega),
    BitVec.getLsbD_of_ge b (12 + i - 6) (by omega), BitVec.getLsbD_of_ge v (12 + i - 3) (by omega),
    BitVec.getLsbD_of_ge m (12 + i) (by omega)]

@[simp] theorem avgField_cfgImm (a b v m : Code) : (cfgImm a b v m).extractLsb' 9 3 = a := by
  ext i hi
  simp [cfgImm, show 9 + i < 16 by omega, BitVec.getLsbD_eq_getElem hi,
    BitVec.getLsbD_of_ge b (9 + i - 6) (by omega), BitVec.getLsbD_of_ge v (9 + i - 3) (by omega),
    BitVec.getLsbD_of_ge m (9 + i) (by omega)]

@[simp] theorem vbusctField_cfgImm (a b v m : Code) : (cfgImm a b v m).extractLsb' 6 3 = b := by
  ext i hi
  simp [cfgImm, show 6 + i < 16 by omega, show 6 + i < 9 by omega, BitVec.getLsbD_eq_getElem hi,
    BitVec.getLsbD_of_ge v (6 + i - 3) (by omega), BitVec.getLsbD_of_ge m (6 + i) (by omega)]

@[simp] theorem vshctField_cfgImm (a b v m : Code) : (cfgImm a b v m).extractLsb' 3 3 = v := by
  ext i hi
  simp [cfgImm, show 3 + i < 16 by omega, show 3 + i < 9 by omega, show 3 + i < 6 by omega,
    BitVec.getLsbD_eq_getElem hi]

@[simp] theorem modeField_cfgImm (a b v m : Code) : (cfgImm a b v m).extractLsb' 0 3 = m := by
  ext i hi
  simp [cfgImm, show i < 16 by omega, show i < 9 by omega, show i < 6 by omega, show i < 3 by omega]

@[simp] theorem z8Field_regImm (off : Byte) : (regImm off).extractLsb' 8 8 = 0#8 := by
  ext i hi
  simp [regImm]

@[simp] theorem offField_regImm (off : Byte) : (regImm off).extractLsb' 0 8 = off := by
  ext i hi
  simp [regImm, show i < 16 by omega, BitVec.getLsbD_eq_getElem hi]

/-! ## Masks: a mask that keeps OP, RSV and the zero fields gives the word without its operand -/

theorem getLsbD_commandWord (op : BitVec 4) (imm : Half) (i : Nat) (hi : i < 32) :
    (commandWord op imm).getLsbD i = (decide (28 ≤ i) && op.getLsbD (i - 28) || imm.getLsbD i) := by
  by_cases h : i < 28
  · simp [commandWord, h, hi]
  · simp [commandWord, h, hi, show 28 ≤ i by omega]

/-- A word with an operand below bit n, under the mask of the bits from n up, is the word without the operand. -/
theorem commandWord_and_mask (op : BitVec 4) (imm : Half) (mask : Word) (n : Nat)
    (hmask : ∀ i < 32, mask.getLsbD i = decide (n ≤ i)) (hn : n ≤ 16)
    (himm : ∀ i, n ≤ i → imm.getLsbD i = false) :
    commandWord op imm &&& mask = commandWord op 0#16 := by
  apply BitVec.eq_of_getLsbD_eq
  intro i hi
  rw [BitVec.getLsbD_and, hmask i hi, getLsbD_commandWord op imm i hi, getLsbD_commandWord op 0#16 i hi]
  by_cases hni : n ≤ i
  · rw [himm i hni]
    simp [hni]
  · rw [decide_eq_false hni, decide_eq_false (show ¬ 28 ≤ i by omega)]
    simp

theorem commandWord_and_raw_mask (op : BitVec 4) (imm : Half) :
    commandWord op imm &&& 0xFFFF0000#32 = commandWord op 0#16 :=
  commandWord_and_mask op imm _ 16 (by decide) le_rfl fun i hi => BitVec.getLsbD_of_ge imm i hi

theorem commandWord_and_cfg_mask (op : BitVec 4) (a b v m : Code) :
    commandWord op (cfgImm a b v m) &&& 0xFFFFF000#32 = commandWord op 0#16 :=
  commandWord_and_mask op _ _ 12 (by decide) (by omega) fun i hi => by
    simp [cfgImm, BitVec.getLsbD_of_ge a (i - 9) (by omega), BitVec.getLsbD_of_ge b (i - 6) (by omega),
      BitVec.getLsbD_of_ge v (i - 3) (by omega), BitVec.getLsbD_of_ge m i (by omega)]

theorem commandWord_and_reg_mask (op : BitVec 4) (off : Byte) :
    commandWord op (regImm off) &&& 0xFFFFFF00#32 = commandWord op 0#16 :=
  commandWord_and_mask op _ _ 8 (by decide) (by omega) fun i hi => by
    simp [regImm, BitVec.getLsbD_of_ge off i hi]

end Sys2Proof
end

