-- ==== Sys2Proof/Laws/State.lean ====
section
/-! SUPPORT. One lemma per field per state update, so that no later proof unfolds an update. -/

namespace Sys2Proof.Machine.State

variable (s : State)

/-! ## succeed -/

@[simp] theorem succeed_facade (v : Result) : (s.succeed v).facade = s.facade := rfl
@[simp] theorem succeed_curLsb (v : Result) : (s.succeed v).curLsb = s.curLsb := rfl
@[simp] theorem succeed_pwrLsb (v : Result) : (s.succeed v).pwrLsb = s.pwrLsb := rfl
@[simp] theorem succeed_calVal (v : Result) : (s.succeed v).calVal = s.calVal := rfl
@[simp] theorem succeed_res (v : Result) : (s.succeed v).res = v := rfl
@[simp] theorem succeed_resValid (v : Result) : (s.succeed v).resValid = true := rfl
@[simp] theorem succeed_err (v : Result) : (s.succeed v).err = .none := rfl
@[simp] theorem succeed_calz (v : Result) : (s.succeed v).calz = s.calz := rfl
@[simp] theorem succeed_calovf (v : Result) : (s.succeed v).calovf = s.calovf := rfl
@[simp] theorem succeed_cmd (v : Result) : (s.succeed v).cmd = s.cmd := rfl
@[simp] theorem succeed_opa (v : Result) : (s.succeed v).opa = s.opa := rfl
@[simp] theorem succeed_opb (v : Result) : (s.succeed v).opb = s.opb := rfl
@[simp] theorem succeed_cmdValid (v : Result) : (s.succeed v).cmdValid = s.cmdValid := rfl
@[simp] theorem succeed_done (v : Result) : (s.succeed v).done = s.done := rfl
@[simp] theorem succeed_hostActions (v : Result) : (s.succeed v).hostActions = s.hostActions := rfl
@[simp] theorem succeed_busLog (v : Result) : (s.succeed v).busLog = s.busLog := rfl
@[simp] theorem succeed_busScript (v : Result) : (s.succeed v).busScript = s.busScript := rfl
@[simp] theorem succeed_resets (v : Result) : (s.succeed v).resets = s.resets := rfl

/-! ## raise -/

@[simp] theorem raise_facade (e : ErrKind) : (s.raise e).facade = s.facade := rfl
@[simp] theorem raise_curLsb (e : ErrKind) : (s.raise e).curLsb = s.curLsb := rfl
@[simp] theorem raise_pwrLsb (e : ErrKind) : (s.raise e).pwrLsb = s.pwrLsb := rfl
@[simp] theorem raise_calVal (e : ErrKind) : (s.raise e).calVal = s.calVal := rfl
@[simp] theorem raise_res (e : ErrKind) : (s.raise e).res = s.res := rfl
@[simp] theorem raise_resValid (e : ErrKind) : (s.raise e).resValid = false := rfl
@[simp] theorem raise_err (e : ErrKind) : (s.raise e).err = e := rfl
@[simp] theorem raise_calz (e : ErrKind) : (s.raise e).calz = s.calz := rfl
@[simp] theorem raise_calovf (e : ErrKind) : (s.raise e).calovf = s.calovf := rfl
@[simp] theorem raise_cmd (e : ErrKind) : (s.raise e).cmd = s.cmd := rfl
@[simp] theorem raise_opa (e : ErrKind) : (s.raise e).opa = s.opa := rfl
@[simp] theorem raise_opb (e : ErrKind) : (s.raise e).opb = s.opb := rfl
@[simp] theorem raise_cmdValid (e : ErrKind) : (s.raise e).cmdValid = s.cmdValid := rfl
@[simp] theorem raise_done (e : ErrKind) : (s.raise e).done = s.done := rfl
@[simp] theorem raise_hostActions (e : ErrKind) : (s.raise e).hostActions = s.hostActions := rfl
@[simp] theorem raise_busLog (e : ErrKind) : (s.raise e).busLog = s.busLog := rfl
@[simp] theorem raise_busScript (e : ErrKind) : (s.raise e).busScript = s.busScript := rfl
@[simp] theorem raise_resets (e : ErrKind) : (s.raise e).resets = s.resets := rfl

/-! ## transact -/

@[simp] theorem transact_facade (q : BusRequest) : (s.transact q).facade = s.facade := rfl
@[simp] theorem transact_curLsb (q : BusRequest) : (s.transact q).curLsb = s.curLsb := rfl
@[simp] theorem transact_pwrLsb (q : BusRequest) : (s.transact q).pwrLsb = s.pwrLsb := rfl
@[simp] theorem transact_calVal (q : BusRequest) : (s.transact q).calVal = s.calVal := rfl
@[simp] theorem transact_res (q : BusRequest) : (s.transact q).res = s.res := rfl
@[simp] theorem transact_resValid (q : BusRequest) : (s.transact q).resValid = s.resValid := rfl
@[simp] theorem transact_err (q : BusRequest) : (s.transact q).err = s.err := rfl
@[simp] theorem transact_calz (q : BusRequest) : (s.transact q).calz = s.calz := rfl
@[simp] theorem transact_calovf (q : BusRequest) : (s.transact q).calovf = s.calovf := rfl
@[simp] theorem transact_cmd (q : BusRequest) : (s.transact q).cmd = s.cmd := rfl
@[simp] theorem transact_opa (q : BusRequest) : (s.transact q).opa = s.opa := rfl
@[simp] theorem transact_opb (q : BusRequest) : (s.transact q).opb = s.opb := rfl
@[simp] theorem transact_cmdValid (q : BusRequest) : (s.transact q).cmdValid = s.cmdValid := rfl
@[simp] theorem transact_done (q : BusRequest) : (s.transact q).done = s.done := rfl
@[simp] theorem transact_hostActions (q : BusRequest) : (s.transact q).hostActions = s.hostActions := rfl
@[simp] theorem transact_busLog (q : BusRequest) : (s.transact q).busLog = s.busLog ++ [⟨q, s.answer q⟩] := rfl
@[simp] theorem transact_busScript (q : BusRequest) : (s.transact q).busScript = s.busScript.tail := rfl
@[simp] theorem transact_resets (q : BusRequest) : (s.transact q).resets = s.resets := rfl

/-! ## setFlags -/

@[simp] theorem setFlags_facade (z o : Bool) : (s.setFlags z o).facade = s.facade := rfl
@[simp] theorem setFlags_curLsb (z o : Bool) : (s.setFlags z o).curLsb = s.curLsb := rfl
@[simp] theorem setFlags_pwrLsb (z o : Bool) : (s.setFlags z o).pwrLsb = s.pwrLsb := rfl
@[simp] theorem setFlags_calVal (z o : Bool) : (s.setFlags z o).calVal = s.calVal := rfl
@[simp] theorem setFlags_res (z o : Bool) : (s.setFlags z o).res = s.res := rfl
@[simp] theorem setFlags_resValid (z o : Bool) : (s.setFlags z o).resValid = s.resValid := rfl
@[simp] theorem setFlags_err (z o : Bool) : (s.setFlags z o).err = s.err := rfl
@[simp] theorem setFlags_calz (z o : Bool) : (s.setFlags z o).calz = z := rfl
@[simp] theorem setFlags_calovf (z o : Bool) : (s.setFlags z o).calovf = o := rfl
@[simp] theorem setFlags_cmd (z o : Bool) : (s.setFlags z o).cmd = s.cmd := rfl
@[simp] theorem setFlags_opa (z o : Bool) : (s.setFlags z o).opa = s.opa := rfl
@[simp] theorem setFlags_opb (z o : Bool) : (s.setFlags z o).opb = s.opb := rfl
@[simp] theorem setFlags_cmdValid (z o : Bool) : (s.setFlags z o).cmdValid = s.cmdValid := rfl
@[simp] theorem setFlags_done (z o : Bool) : (s.setFlags z o).done = s.done := rfl
@[simp] theorem setFlags_hostActions (z o : Bool) : (s.setFlags z o).hostActions = s.hostActions := rfl
@[simp] theorem setFlags_busLog (z o : Bool) : (s.setFlags z o).busLog = s.busLog := rfl
@[simp] theorem setFlags_busScript (z o : Bool) : (s.setFlags z o).busScript = s.busScript := rfl
@[simp] theorem setFlags_resets (z o : Bool) : (s.setFlags z o).resets = s.resets := rfl

/-! ## setFacade -/

@[simp] theorem setFacade_facade (f : Facade) : (s.setFacade f).facade = f := rfl
@[simp] theorem setFacade_curLsb (f : Facade) : (s.setFacade f).curLsb = s.curLsb := rfl
@[simp] theorem setFacade_pwrLsb (f : Facade) : (s.setFacade f).pwrLsb = s.pwrLsb := rfl
@[simp] theorem setFacade_calVal (f : Facade) : (s.setFacade f).calVal = s.calVal := rfl
@[simp] theorem setFacade_res (f : Facade) : (s.setFacade f).res = s.res := rfl
@[simp] theorem setFacade_resValid (f : Facade) : (s.setFacade f).resValid = s.resValid := rfl
@[simp] theorem setFacade_err (f : Facade) : (s.setFacade f).err = s.err := rfl
@[simp] theorem setFacade_calz (f : Facade) : (s.setFacade f).calz = s.calz := rfl
@[simp] theorem setFacade_calovf (f : Facade) : (s.setFacade f).calovf = s.calovf := rfl
@[simp] theorem setFacade_cmd (f : Facade) : (s.setFacade f).cmd = s.cmd := rfl
@[simp] theorem setFacade_opa (f : Facade) : (s.setFacade f).opa = s.opa := rfl
@[simp] theorem setFacade_opb (f : Facade) : (s.setFacade f).opb = s.opb := rfl
@[simp] theorem setFacade_cmdValid (f : Facade) : (s.setFacade f).cmdValid = s.cmdValid := rfl
@[simp] theorem setFacade_done (f : Facade) : (s.setFacade f).done = s.done := rfl
@[simp] theorem setFacade_hostActions (f : Facade) : (s.setFacade f).hostActions = s.hostActions := rfl
@[simp] theorem setFacade_busLog (f : Facade) : (s.setFacade f).busLog = s.busLog := rfl
@[simp] theorem setFacade_busScript (f : Facade) : (s.setFacade f).busScript = s.busScript := rfl
@[simp] theorem setFacade_resets (f : Facade) : (s.setFacade f).resets = s.resets := rfl

/-! ## invalidate -/

@[simp] theorem invalidate_facade : (s.invalidate).facade = facadeInvalidated s.facade := rfl
@[simp] theorem invalidate_curLsb : (s.invalidate).curLsb = s.curLsb := rfl
@[simp] theorem invalidate_pwrLsb : (s.invalidate).pwrLsb = s.pwrLsb := rfl
@[simp] theorem invalidate_calVal : (s.invalidate).calVal = s.calVal := rfl
@[simp] theorem invalidate_res : (s.invalidate).res = s.res := rfl
@[simp] theorem invalidate_resValid : (s.invalidate).resValid = s.resValid := rfl
@[simp] theorem invalidate_err : (s.invalidate).err = s.err := rfl
@[simp] theorem invalidate_calz : (s.invalidate).calz = s.calz := rfl
@[simp] theorem invalidate_calovf : (s.invalidate).calovf = s.calovf := rfl
@[simp] theorem invalidate_cmd : (s.invalidate).cmd = s.cmd := rfl
@[simp] theorem invalidate_opa : (s.invalidate).opa = s.opa := rfl
@[simp] theorem invalidate_opb : (s.invalidate).opb = s.opb := rfl
@[simp] theorem invalidate_cmdValid : (s.invalidate).cmdValid = s.cmdValid := rfl
@[simp] theorem invalidate_done : (s.invalidate).done = s.done := rfl
@[simp] theorem invalidate_hostActions : (s.invalidate).hostActions = s.hostActions := rfl
@[simp] theorem invalidate_busLog : (s.invalidate).busLog = s.busLog := rfl
@[simp] theorem invalidate_busScript : (s.invalidate).busScript = s.busScript := rfl
@[simp] theorem invalidate_resets : (s.invalidate).resets = s.resets := rfl

/-! ## commit -/

@[simp] theorem commit_facade (k p c : Half) : (s.commit k p c).facade = .calibrated := rfl
@[simp] theorem commit_curLsb (k p c : Half) : (s.commit k p c).curLsb = k := rfl
@[simp] theorem commit_pwrLsb (k p c : Half) : (s.commit k p c).pwrLsb = p := rfl
@[simp] theorem commit_calVal (k p c : Half) : (s.commit k p c).calVal = c := rfl
@[simp] theorem commit_res (k p c : Half) : (s.commit k p c).res = s.res := rfl
@[simp] theorem commit_resValid (k p c : Half) : (s.commit k p c).resValid = s.resValid := rfl
@[simp] theorem commit_err (k p c : Half) : (s.commit k p c).err = s.err := rfl
@[simp] theorem commit_calz (k p c : Half) : (s.commit k p c).calz = s.calz := rfl
@[simp] theorem commit_calovf (k p c : Half) : (s.commit k p c).calovf = s.calovf := rfl
@[simp] theorem commit_cmd (k p c : Half) : (s.commit k p c).cmd = s.cmd := rfl
@[simp] theorem commit_opa (k p c : Half) : (s.commit k p c).opa = s.opa := rfl
@[simp] theorem commit_opb (k p c : Half) : (s.commit k p c).opb = s.opb := rfl
@[simp] theorem commit_cmdValid (k p c : Half) : (s.commit k p c).cmdValid = s.cmdValid := rfl
@[simp] theorem commit_done (k p c : Half) : (s.commit k p c).done = s.done := rfl
@[simp] theorem commit_hostActions (k p c : Half) : (s.commit k p c).hostActions = s.hostActions := rfl
@[simp] theorem commit_busLog (k p c : Half) : (s.commit k p c).busLog = s.busLog := rfl
@[simp] theorem commit_busScript (k p c : Half) : (s.commit k p c).busScript = s.busScript := rfl
@[simp] theorem commit_resets (k p c : Half) : (s.commit k p c).resets = s.resets := rfl

/-! ## raiseDone -/

@[simp] theorem raiseDone_facade : (s.raiseDone).facade = s.facade := rfl
@[simp] theorem raiseDone_curLsb : (s.raiseDone).curLsb = s.curLsb := rfl
@[simp] theorem raiseDone_pwrLsb : (s.raiseDone).pwrLsb = s.pwrLsb := rfl
@[simp] theorem raiseDone_calVal : (s.raiseDone).calVal = s.calVal := rfl
@[simp] theorem raiseDone_res : (s.raiseDone).res = s.res := rfl
@[simp] theorem raiseDone_resValid : (s.raiseDone).resValid = s.resValid := rfl
@[simp] theorem raiseDone_err : (s.raiseDone).err = s.err := rfl
@[simp] theorem raiseDone_calz : (s.raiseDone).calz = s.calz := rfl
@[simp] theorem raiseDone_calovf : (s.raiseDone).calovf = s.calovf := rfl
@[simp] theorem raiseDone_cmd : (s.raiseDone).cmd = s.cmd := rfl
@[simp] theorem raiseDone_opa : (s.raiseDone).opa = s.opa := rfl
@[simp] theorem raiseDone_opb : (s.raiseDone).opb = s.opb := rfl
@[simp] theorem raiseDone_cmdValid : (s.raiseDone).cmdValid = s.cmdValid := rfl
@[simp] theorem raiseDone_done : (s.raiseDone).done = true := rfl
@[simp] theorem raiseDone_hostActions : (s.raiseDone).hostActions = s.hostActions := rfl
@[simp] theorem raiseDone_busLog : (s.raiseDone).busLog = s.busLog := rfl
@[simp] theorem raiseDone_busScript : (s.raiseDone).busScript = s.busScript := rfl
@[simp] theorem raiseDone_resets : (s.raiseDone).resets = s.resets := rfl

/-! ## settleDone -/

@[simp] theorem settleDone_facade : (s.settleDone).facade = s.facade := rfl
@[simp] theorem settleDone_curLsb : (s.settleDone).curLsb = s.curLsb := rfl
@[simp] theorem settleDone_pwrLsb : (s.settleDone).pwrLsb = s.pwrLsb := rfl
@[simp] theorem settleDone_calVal : (s.settleDone).calVal = s.calVal := rfl
@[simp] theorem settleDone_res : (s.settleDone).res = s.res := rfl
@[simp] theorem settleDone_resValid : (s.settleDone).resValid = s.resValid := rfl
@[simp] theorem settleDone_err : (s.settleDone).err = s.err := rfl
@[simp] theorem settleDone_calz : (s.settleDone).calz = s.calz := rfl
@[simp] theorem settleDone_calovf : (s.settleDone).calovf = s.calovf := rfl
@[simp] theorem settleDone_cmd : (s.settleDone).cmd = s.cmd := rfl
@[simp] theorem settleDone_opa : (s.settleDone).opa = s.opa := rfl
@[simp] theorem settleDone_opb : (s.settleDone).opb = s.opb := rfl
@[simp] theorem settleDone_cmdValid : (s.settleDone).cmdValid = s.cmdValid := rfl
@[simp] theorem settleDone_done : (s.settleDone).done = (s.done && s.cmdValid) := rfl
@[simp] theorem settleDone_hostActions : (s.settleDone).hostActions = s.hostActions := rfl
@[simp] theorem settleDone_busLog : (s.settleDone).busLog = s.busLog := rfl
@[simp] theorem settleDone_busScript : (s.settleDone).busScript = s.busScript := rfl
@[simp] theorem settleDone_resets : (s.settleDone).resets = s.resets := rfl

/-! ## presentWord -/

@[simp] theorem presentWord_facade (w : Word) : (s.presentWord w).facade = s.facade := rfl
@[simp] theorem presentWord_curLsb (w : Word) : (s.presentWord w).curLsb = s.curLsb := rfl
@[simp] theorem presentWord_pwrLsb (w : Word) : (s.presentWord w).pwrLsb = s.pwrLsb := rfl
@[simp] theorem presentWord_calVal (w : Word) : (s.presentWord w).calVal = s.calVal := rfl
@[simp] theorem presentWord_res (w : Word) : (s.presentWord w).res = s.res := rfl
@[simp] theorem presentWord_resValid (w : Word) : (s.presentWord w).resValid = s.resValid := rfl
@[simp] theorem presentWord_err (w : Word) : (s.presentWord w).err = s.err := rfl
@[simp] theorem presentWord_calz (w : Word) : (s.presentWord w).calz = s.calz := rfl
@[simp] theorem presentWord_calovf (w : Word) : (s.presentWord w).calovf = s.calovf := rfl
@[simp] theorem presentWord_cmd (w : Word) : (s.presentWord w).cmd = w := rfl
@[simp] theorem presentWord_opa (w : Word) : (s.presentWord w).opa = s.opa := rfl
@[simp] theorem presentWord_opb (w : Word) : (s.presentWord w).opb = s.opb := rfl
@[simp] theorem presentWord_cmdValid (w : Word) : (s.presentWord w).cmdValid = true := rfl
@[simp] theorem presentWord_done (w : Word) : (s.presentWord w).done = false := rfl
@[simp] theorem presentWord_hostActions (w : Word) : (s.presentWord w).hostActions = s.hostActions := rfl
@[simp] theorem presentWord_busLog (w : Word) : (s.presentWord w).busLog = s.busLog := rfl
@[simp] theorem presentWord_busScript (w : Word) : (s.presentWord w).busScript = s.busScript := rfl
@[simp] theorem presentWord_resets (w : Word) : (s.presentWord w).resets = s.resets := rfl

end Sys2Proof.Machine.State
end

