-- ==== Sys2Proof/Laws/Ops.lean ====
section
/-! SUPPORT. What each shared operation can do, once: the bus accesses, the state gates, and the parts of the
commands that go on after a transaction. Proofs cite these and unfold no operation. -/

namespace Sys2Proof.Machine

variable {s : State}

/-! ## Constants -/

@[simp] theorem offset_configuration : SensorReg.configuration.offset = 0x00#8 := rfl
@[simp] theorem offset_shuntVoltage : SensorReg.shuntVoltage.offset = 0x01#8 := rfl
@[simp] theorem offset_busVoltage : SensorReg.busVoltage.offset = 0x02#8 := rfl
@[simp] theorem offset_power : SensorReg.power.offset = 0x03#8 := rfl
@[simp] theorem offset_current : SensorReg.current.offset = 0x04#8 := rfl
@[simp] theorem offset_calibration : SensorReg.calibration.offset = 0x05#8 := rfl
@[simp] theorem offset_maskEnable : SensorReg.maskEnable.offset = 0x06#8 := rfl
@[simp] theorem offset_alertLimit : SensorReg.alertLimit.offset = 0x07#8 := rfl
@[simp] theorem offset_manufacturerId : SensorReg.manufacturerId.offset = 0xFF#8 := rfl

/-! ## Answers of the environment -/

theorem State.answer_of_script {a : BusAnswer} {rest : List BusAnswer} (h : s.busScript = a :: rest)
    (q : BusRequest) : s.answer q = a := by
  simp [State.answer, h]

theorem State.answer_of_no_script (h : s.busScript = []) (q : BusRequest) :
    s.answer q = Config.pBus s.busLog q := by
  simp [State.answer, h]

/-- The answer depends on the history and the answers chosen, and on nothing else of the state. -/
theorem State.answer_congr {t : State} (hl : t.busLog = s.busLog) (hs : t.busScript = s.busScript)
    (q : BusRequest) : t.answer q = s.answer q := by
  simp [State.answer, hl, hs]

@[simp] theorem State.answer_succeed (v : Result) (q : BusRequest) : (s.succeed v).answer q = s.answer q := rfl
@[simp] theorem State.answer_raise (e : ErrKind) (q : BusRequest) : (s.raise e).answer q = s.answer q := rfl
@[simp] theorem State.answer_setFlags (z o : Bool) (q : BusRequest) : (s.setFlags z o).answer q = s.answer q := rfl
@[simp] theorem State.answer_setFacade (f : Facade) (q : BusRequest) :
    (s.setFacade f).answer q = s.answer q := rfl
@[simp] theorem State.answer_invalidate (q : BusRequest) : s.invalidate.answer q = s.answer q := rfl

@[simp] theorem writeOk_nack : writeOk .nack = false := rfl
@[simp] theorem writeOk_absent : writeOk .absent = false := rfl
@[simp] theorem writeOk_transfer (n : Nat) (bs : List Byte) : writeOk (.transfer n bs) = decide (3 ≤ n) := rfl
@[simp] theorem readValue_nack : readValue .nack = none := rfl
@[simp] theorem readValue_absent : readValue .absent = none := rfl
@[simp] theorem readValue_none_returned (n : Nat) : readValue (.transfer n []) = none := rfl
@[simp] theorem readValue_one_returned (n : Nat) (b : Byte) : readValue (.transfer n [b]) = none := rfl
@[simp] theorem readValue_two_returned (n : Nat) (b0 b1 : Byte) (rest : List Byte) :
    readValue (.transfer n (b0 :: b1 :: rest)) = if 1 ≤ n then some (bytesValue b0 b1) else none := rfl

/-- Two bytes returned to an acknowledged request give their value, high byte first. -/
theorem readValue_pair {n : Nat} (hn : 1 ≤ n) (b0 b1 : Byte) :
    readValue (.transfer n [b0, b1]) = some (bytesValue b0 b1) := by
  simp [hn]

/-! ## Accesses -/

@[simp] theorem State.memWrite_fst (off : Byte) (v : Half) :
    (s.memWrite off v).1 = writeOk (s.answer (writeRequest off v)) := rfl
@[simp] theorem State.memWrite_snd (off : Byte) (v : Half) :
    (s.memWrite off v).2 = s.transact (writeRequest off v) := rfl
@[simp] theorem State.memRead_fst (off : Byte) :
    (s.memRead off).1 = readValue (s.answer (readRequest off)) := rfl
@[simp] theorem State.memRead_snd (off : Byte) : (s.memRead off).2 = s.transact (readRequest off) := rfl

theorem State.memWrite_eq (off : Byte) (v : Half) :
    s.memWrite off v = (writeOk (s.answer (writeRequest off v)), s.transact (writeRequest off v)) := rfl
theorem State.memRead_eq (off : Byte) :
    s.memRead off = (readValue (s.answer (readRequest off)), s.transact (readRequest off)) := rfl

theorem State.readResult_fail {r : SensorReg} (f : Half → Result)
    (h : readValue (s.answer (readRequest r.offset)) = none) :
    s.readResult r f = (s.transact (readRequest r.offset)).raise .transport := by
  simp [State.readResult, State.memRead_eq, h]

theorem State.readResult_value {r : SensorReg} (f : Half → Result) {v : Half}
    (h : readValue (s.answer (readRequest r.offset)) = some v) :
    s.readResult r f = (s.transact (readRequest r.offset)).succeed (f v) := by
  simp [State.readResult, State.memRead_eq, h]

/-- Everything a read with a result can do. -/
theorem State.readResult_cases (r : SensorReg) (f : Half → Result) :
    (readValue (s.answer (readRequest r.offset)) = none ∧
      s.readResult r f = (s.transact (readRequest r.offset)).raise .transport) ∨
    (∃ v, readValue (s.answer (readRequest r.offset)) = some v ∧
      s.readResult r f = (s.transact (readRequest r.offset)).succeed (f v)) := by
  cases h : readValue (s.answer (readRequest r.offset)) with
  | none => exact .inl ⟨rfl, State.readResult_fail f h⟩
  | some v => exact .inr ⟨v, rfl, State.readResult_value f h⟩

/-! ## State gates -/

theorem State.whenConfigured_refuses (h : s.facade = .uninit) (t : State) :
    s.whenConfigured t = s.raise .notConfigured := if_pos h

theorem State.whenConfigured_passes (h : s.facade ≠ .uninit) (t : State) : s.whenConfigured t = t := if_neg h

theorem State.whenCalibrated_refuses (h : s.facade ≠ .calibrated) (t : State) :
    s.whenCalibrated t = s.raise .notCalibrated := if_neg h

theorem State.whenCalibrated_passes (h : s.facade = .calibrated) (t : State) : s.whenCalibrated t = t := if_pos h

/-! ## The parts of CFG_APPLY and CALIBRATE after a transaction -/

theorem State.applyConfig_fail {w : Half}
    (h : writeOk (s.answer (writeRequest 0x00#8 w)) = false) :
    s.applyConfig w = (s.transact (writeRequest 0x00#8 w)).raise .transport := by
  simp [State.applyConfig, State.memWrite_eq, h]

theorem State.applyConfig_ok {w : Half}
    (h : writeOk (s.answer (writeRequest 0x00#8 w)) = true) :
    s.applyConfig w =
      ((s.transact (writeRequest 0x00#8 w)).setFacade
        (facadeConfigured s.facade)).succeed (zext64 w) := by
  simp [State.applyConfig, State.memWrite_eq, h]

theorem State.writeCal_fail {d : CalParams}
    (h : writeOk (s.answer (writeRequest 0x05#8 d.c)) = false) :
    s.writeCal d = (s.transact (writeRequest 0x05#8 d.c)).invalidate.raise .transport := by
  simp [State.writeCal, State.memWrite_eq, h]

theorem State.writeCal_ok {d : CalParams}
    (h : writeOk (s.answer (writeRequest 0x05#8 d.c)) = true) :
    s.writeCal d = (s.transact (writeRequest 0x05#8 d.c)).verifyCal d := by
  simp [State.writeCal, State.memWrite_eq, h]

theorem State.verifyCal_fail {d : CalParams}
    (h : readValue (s.answer (readRequest 0x05#8)) = none) :
    s.verifyCal d = (s.transact (readRequest 0x05#8)).invalidate.raise .transport := by
  simp [State.verifyCal, State.memRead_eq, h]

theorem State.verifyCal_mismatch {d : CalParams} {v : Half}
    (h : readValue (s.answer (readRequest 0x05#8)) = some v) (hv : v ≠ d.c) :
    s.verifyCal d =
      (s.transact (readRequest 0x05#8)).invalidate.raise .calVerifyMismatch := by
  simp [State.verifyCal, State.memRead_eq, h, hv]

theorem State.verifyCal_match {d : CalParams}
    (h : readValue (s.answer (readRequest 0x05#8)) = some d.c) :
    s.verifyCal d =
      ((s.transact (readRequest 0x05#8)).commit d.k d.p d.c).succeed
        (packCalResult d.k d.p d.c) := by
  simp [State.verifyCal, State.memRead_eq, h]

/-- Everything CFG_APPLY can do once its word is packed. -/
theorem State.applyConfig_cases (w : Half) :
    (writeOk (s.answer (writeRequest 0x00#8 w)) = false ∧
      s.applyConfig w = (s.transact (writeRequest 0x00#8 w)).raise .transport) ∨
    (writeOk (s.answer (writeRequest 0x00#8 w)) = true ∧
      s.applyConfig w =
        ((s.transact (writeRequest 0x00#8 w)).setFacade
          (facadeConfigured s.facade)).succeed (zext64 w)) := by
  cases h : writeOk (s.answer (writeRequest 0x00#8 w)) with
  | false => exact .inl ⟨rfl, State.applyConfig_fail h⟩
  | true => exact .inr ⟨rfl, State.applyConfig_ok h⟩

/-- Everything the read-back of CALIBRATE can do. -/
theorem State.verifyCal_cases (d : CalParams) :
    (readValue (s.answer (readRequest 0x05#8)) = none ∧
      s.verifyCal d = (s.transact (readRequest 0x05#8)).invalidate.raise .transport) ∨
    (∃ v, readValue (s.answer (readRequest 0x05#8)) = some v ∧ v ≠ d.c ∧
      s.verifyCal d =
        (s.transact (readRequest 0x05#8)).invalidate.raise .calVerifyMismatch) ∨
    (readValue (s.answer (readRequest 0x05#8)) = some d.c ∧
      s.verifyCal d =
        ((s.transact (readRequest 0x05#8)).commit d.k d.p d.c).succeed
          (packCalResult d.k d.p d.c)) := by
  cases h : readValue (s.answer (readRequest 0x05#8)) with
  | none => exact .inl ⟨rfl, State.verifyCal_fail h⟩
  | some v =>
    by_cases hv : v = d.c
    · subst hv
      exact .inr (.inr ⟨rfl, State.verifyCal_match h⟩)
    · exact .inr (.inl ⟨v, rfl, hv, State.verifyCal_mismatch h hv⟩)

/-- Everything CALIBRATE can do once its parameters are derived. -/
theorem State.writeCal_cases (d : CalParams) :
    (writeOk (s.answer (writeRequest 0x05#8 d.c)) = false ∧
      s.writeCal d =
        (s.transact (writeRequest 0x05#8 d.c)).invalidate.raise .transport) ∨
    (writeOk (s.answer (writeRequest 0x05#8 d.c)) = true ∧
      s.writeCal d = (s.transact (writeRequest 0x05#8 d.c)).verifyCal d) := by
  cases h : writeOk (s.answer (writeRequest 0x05#8 d.c)) with
  | false => exact .inl ⟨rfl, State.writeCal_fail h⟩
  | true => exact .inr ⟨rfl, State.writeCal_ok h⟩

/-! ## The register map -/

theorem sensorRegAt_offset (r : SensorReg) : sensorRegAt r.offset = some r := by
  cases r <;> rfl

theorem offset_of_sensorRegAt {off : Byte} {r : SensorReg} (h : sensorRegAt off = some r) : r.offset = off := by
  have := List.find?_some h
  simpa using this

/-! ## STATE -/

@[simp] theorem facadeConfigured_uninit : facadeConfigured .uninit = .configured := rfl
@[simp] theorem facadeInvalidated_calibrated : facadeInvalidated .calibrated = .configured := rfl

theorem facadeConfigured_of_ne {f : Facade} (h : f ≠ .uninit) : facadeConfigured f = f := by
  cases f <;> simp_all [facadeConfigured]

theorem facadeInvalidated_of_ne {f : Facade} (h : f ≠ .uninit) : facadeInvalidated f = .configured := by
  cases f <;> simp_all [facadeInvalidated]

/-- An invalidation never leaves the cache valid. -/
theorem facadeInvalidated_ne_calibrated (f : Facade) : facadeInvalidated f ≠ .calibrated := by
  cases f <;> simp [facadeInvalidated]

/-! ## The step -/

theorem step_of_illegal {e : DecodeReject} (ht : s.takesCommand = true) (h : decode s.commandWord = .error e) :
    step s = .next s.illegal.raiseDone := by
  simp [step, ht, h]

theorem step_of_command {i : Instr} {t : State} (ht : s.takesCommand = true) (h : decode s.commandWord = .ok i)
    (he : exec i s = .next t) : step s = .next t.raiseDone := by
  simp [step, ht, h, he]

theorem step_of_host_turn (ht : s.takesCommand = false) : step s = .next s.hostTurn := by
  simp [step, ht]

end Sys2Proof.Machine
end

