-- ==== Sys2Proof/Laws/Exec.lean ====
section
/-! SUPPORT. What a command can do, said once: every command ends in one of these ways. Claims about all commands
take this apart and unfold no meaning. -/

namespace Sys2Proof.Machine

/-- The precondition of the calibration commands, in terms of the ports. -/
theorem State.calOperandZero_iff (s : State) : s.calOperandZero = true ↔ s.opa = 0#32 ∨ s.opb = 0#32 := by
  simp only [State.calOperandZero, State.rshunt, State.imax, Bool.or_eq_true, beq_iff_eq, BitVec.toNat_eq,
    BitVec.toNat_ofNat, Nat.zero_mod]

/-- How a command `i` can end from `s`, by the state it leaves. Values written to RES are not said here. -/
inductive Ends (i : Instr) (s : State) : State → Prop where
  /-- A result without a transaction: CFG_PACK, DEC_*. -/
  | pure (v : Result) (hr : requestsOf s i = []) (hd : i ≠ .calDerive)
      (hg : needsCalibrated i = true → s.facade = .calibrated) : Ends i s (s.succeed v)
  | notConfigured (hn : needsConfigured i = true) (hf : s.facade = .uninit) : Ends i s (s.raise .notConfigured)
  | notCalibrated (hn : needsCalibrated i = true) (hf : s.facade ≠ .calibrated) : Ends i s (s.raise .notCalibrated)
  /-- An RD_RAW term whose offset is outside the map. -/
  | illegal (hw : i.wellFormed = false) : Ends i s (s.raise .illegalCmd)
  | calPrecondition (hi : i = .calDerive ∨ i = .calibrate ∧ s.facade ≠ .uninit)
      (hz : s.opa = 0#32 ∨ s.opb = 0#32) : Ends i s (s.raise .calPrecondition)
  | derived (v : Result) (hi : i = .calDerive) (ha : s.opa ≠ 0#32) (hb : s.opb ≠ 0#32) :
      Ends i s ((s.setFlags s.derived.z s.derived.ovf).succeed v)
  /-- RD_* and RD_RAW with a failed read. -/
  | readFail (off : Byte) (hr : requestsOf s i = [readRequest off]) (hp : i ≠ .ping) (hw : i.wellFormed = true)
      (hc : needsConfigured i = true → s.facade ≠ .uninit)
      (hg : needsCalibrated i = true → s.facade = .calibrated)
      (ha : readValue (s.answer (readRequest off)) = none) :
      Ends i s ((s.transact (readRequest off)).raise .transport)
  /-- RD_* and RD_RAW with a value read. -/
  | readValue (off : Byte) (v : Half) (x : Result) (hr : requestsOf s i = [readRequest off]) (hp : i ≠ .ping)
      (hw : i.wellFormed = true) (hc : needsConfigured i = true → s.facade ≠ .uninit)
      (hg : needsCalibrated i = true → s.facade = .calibrated)
      (ha : readValue (s.answer (readRequest off)) = some v) :
      Ends i s ((s.transact (readRequest off)).succeed x)
  | pingFail (hi : i = .ping) (ha : Machine.readValue (s.answer (readRequest 0xFF#8)) = none) :
      Ends i s { (s.transact (readRequest 0xFF#8)).succeed 0#64 with err := .transport }
  | pingValue (v : Half) (x : Result) (hi : i = .ping)
      (ha : Machine.readValue (s.answer (readRequest 0xFF#8)) = some v) :
      Ends i s ((s.transact (readRequest 0xFF#8)).succeed x)
  | applyFail (a b v m : Code) (hi : i = .cfgApply a b v m)
      (ha : writeOk (s.answer (writeRequest 0x00#8 (packConfig a b v m))) = false) :
      Ends i s ((s.transact (writeRequest 0x00#8 (packConfig a b v m))).raise .transport)
  | applyOk (a b v m : Code) (x : Result) (hi : i = .cfgApply a b v m)
      (ha : writeOk (s.answer (writeRequest 0x00#8 (packConfig a b v m))) = true) :
      Ends i s (((s.transact (writeRequest 0x00#8 (packConfig a b v m))).setFacade
        (facadeConfigured s.facade)).succeed x)
  | resetFail (hi : i = .reset) (ha : writeOk (s.answer (writeRequest 0x00#8 0x8000#16)) = false) :
      Ends i s (((s.transact (writeRequest 0x00#8 0x8000#16)).setFacade .uninit).raise .transport)
  | resetOk (x : Result) (hi : i = .reset) (ha : writeOk (s.answer (writeRequest 0x00#8 0x8000#16)) = true) :
      Ends i s (((s.transact (writeRequest 0x00#8 0x8000#16)).setFacade .uninit).succeed x)
  /-- CALIBRATE with a failed write; `d` is what it derived. -/
  | calWriteFail (d : CalParams) (hd : d = s.derived) (hi : i = .calibrate) (hf : s.facade ≠ .uninit)
      (ha : s.opa ≠ 0#32) (hb : s.opb ≠ 0#32)
      (hw : writeOk (s.answer (writeRequest 0x05#8 d.c)) = false) :
      Ends i s ((((s.setFlags d.z d.ovf).transact (writeRequest 0x05#8 d.c)).setFacade .configured).raise
        .transport)
  /-- CALIBRATE with a failed read-back; `u` is the state after its write. -/
  | calReadFail (d : CalParams) (u : State) (hd : d = s.derived)
      (hu : u = (s.setFlags d.z d.ovf).transact (writeRequest 0x05#8 d.c)) (hi : i = .calibrate)
      (hf : s.facade ≠ .uninit) (ha : s.opa ≠ 0#32) (hb : s.opb ≠ 0#32)
      (hw : writeOk (s.answer (writeRequest 0x05#8 d.c)) = true)
      (hr : Machine.readValue (u.answer (readRequest 0x05#8)) = none) :
      Ends i s (((u.transact (readRequest 0x05#8)).setFacade .configured).raise .transport)
  | calMismatch (d : CalParams) (u : State) (v : Half) (hd : d = s.derived)
      (hu : u = (s.setFlags d.z d.ovf).transact (writeRequest 0x05#8 d.c)) (hi : i = .calibrate)
      (hf : s.facade ≠ .uninit) (ha : s.opa ≠ 0#32) (hb : s.opb ≠ 0#32)
      (hw : writeOk (s.answer (writeRequest 0x05#8 d.c)) = true)
      (hr : Machine.readValue (u.answer (readRequest 0x05#8)) = some v) (hv : v ≠ d.c) :
      Ends i s (((u.transact (readRequest 0x05#8)).setFacade .configured).raise .calVerifyMismatch)
  | calCommit (d : CalParams) (u : State) (x : Result) (hd : d = s.derived)
      (hu : u = (s.setFlags d.z d.ovf).transact (writeRequest 0x05#8 d.c)) (hi : i = .calibrate)
      (hf : s.facade ≠ .uninit) (ha : s.opa ≠ 0#32) (hb : s.opb ≠ 0#32)
      (hw : writeOk (s.answer (writeRequest 0x05#8 d.c)) = true)
      (hr : Machine.readValue (u.answer (readRequest 0x05#8)) = some d.c) :
      Ends i s (((u.transact (readRequest 0x05#8)).commit d.k d.p d.c).succeed x)

variable {s : State}

/-- A read with a result, as an ending. -/
theorem readResult_ends {i : Instr} (r : SensorReg) (f : Half → Result) (hr : requestsOf s i = [readRequest r.offset])
    (hp : i ≠ .ping) (hw : i.wellFormed = true) (hc : needsConfigured i = true → s.facade ≠ .uninit)
    (hg : needsCalibrated i = true → s.facade = .calibrated) : Ends i s (s.readResult r f) := by
  rcases State.readResult_cases (s := s) r f with ⟨ha, he⟩ | ⟨v, ha, he⟩
  · rw [he]
    exact .readFail _ hr hp hw hc hg ha
  · rw [he]
    exact .readValue _ v _ hr hp hw hc hg ha

/-- A gate on CONFIGURED, as an ending. -/
theorem whenConfigured_ends {i : Instr} {t : State} (hn : needsConfigured i = true)
    (ht : s.facade ≠ .uninit → Ends i s t) : Ends i s (s.whenConfigured t) := by
  by_cases hf : s.facade = .uninit
  · rw [State.whenConfigured_refuses hf]
    exact .notConfigured hn hf
  · rw [State.whenConfigured_passes hf]
    exact ht hf

/-- A gate on CALIBRATED, as an ending. -/
theorem whenCalibrated_ends {i : Instr} {t : State} (hn : needsCalibrated i = true)
    (ht : s.facade = .calibrated → Ends i s t) : Ends i s (s.whenCalibrated t) := by
  by_cases hf : s.facade = .calibrated
  · rw [State.whenCalibrated_passes hf]
    exact ht hf
  · rw [State.whenCalibrated_refuses hf]
    exact .notCalibrated hn hf

/-- The part of CALIBRATE after its checks, as an ending. -/
theorem writeCal_ends {d : CalParams} (hd : d = s.derived) (hf : s.facade ≠ .uninit) (ha : s.opa ≠ 0#32)
    (hb : s.opb ≠ 0#32) : Ends .calibrate s ((s.setFlags d.z d.ovf).writeCal d) := by
  generalize hu : (s.setFlags d.z d.ovf).transact (writeRequest 0x05#8 d.c) = u
  have hfu : facadeInvalidated u.facade = .configured := by
    rw [← hu]
    exact facadeInvalidated_of_ne hf
  rcases State.writeCal_cases (s := s.setFlags d.z d.ovf) d with ⟨hw, he⟩ | ⟨hw, he⟩ <;>
    rw [State.answer_setFlags] at hw <;> rw [he, hu]
  · rw [State.invalidate, hfu, ← hu]
    exact .calWriteFail d hd rfl hf ha hb hw
  · rcases State.verifyCal_cases (s := u) d with ⟨hr, he⟩ | ⟨v, hr, hv, he⟩ | ⟨hr, he⟩ <;> rw [he]
    · rw [State.invalidate, State.transact_facade, hfu]
      exact .calReadFail d u hd hu.symm rfl hf ha hb hw hr
    · rw [State.invalidate, State.transact_facade, hfu]
      exact .calMismatch d u v hd hu.symm rfl hf ha hb hw hr hv
    · exact .calCommit d u _ hd hu.symm rfl hf ha hb hw hr

/-- Every command ends in one of the ways of `Ends`. -/
theorem exec_ends (i : Instr) (s : State) : ∃ t, exec i s = .next t ∧ Ends i s t := by
  cases i with
  | cfgPack a b v m => exact ⟨_, rfl, .pure _ rfl nofun nofun⟩
  | cfgApply a b v m =>
    refine ⟨_, rfl, ?_⟩
    rcases State.applyConfig_cases (s := s) (packConfig a b v m) with ⟨ha, he⟩ | ⟨ha, he⟩ <;> rw [he]
    · exact .applyFail a b v m rfl ha
    · exact .applyOk a b v m _ rfl ha
  | calDerive =>
    refine ⟨_, rfl, ?_⟩
    by_cases hz : s.calOperandZero = true
    · rw [if_pos hz]
      exact .calPrecondition (.inl rfl) (s.calOperandZero_iff.1 hz)
    · rw [if_neg hz]
      rw [s.calOperandZero_iff, not_or] at hz
      exact .derived _ rfl hz.1 hz.2
  | calibrate =>
    refine ⟨_, rfl, whenConfigured_ends rfl fun hf => ?_⟩
    by_cases hz : s.calOperandZero = true
    · rw [if_pos hz]
      exact .calPrecondition (.inr ⟨rfl, hf⟩) (s.calOperandZero_iff.1 hz)
    · rw [if_neg hz]
      rw [s.calOperandZero_iff, not_or] at hz
      exact writeCal_ends rfl hf hz.1 hz.2
  | decBus raw => exact ⟨_, rfl, .pure _ rfl nofun nofun⟩
  | decShunt raw => exact ⟨_, rfl, .pure _ rfl nofun nofun⟩
  | decCurrent raw => exact ⟨_, rfl, whenCalibrated_ends rfl fun hf => .pure _ rfl nofun fun _ => hf⟩
  | decPower raw => exact ⟨_, rfl, whenCalibrated_ends rfl fun hf => .pure _ rfl nofun fun _ => hf⟩
  | rdBus =>
    exact ⟨_, rfl, whenConfigured_ends rfl fun hf => readResult_ends _ _ rfl nofun rfl (fun _ => hf) nofun⟩
  | rdShunt =>
    exact ⟨_, rfl, whenConfigured_ends rfl fun hf => readResult_ends _ _ rfl nofun rfl (fun _ => hf) nofun⟩
  | rdCurrent =>
    exact ⟨_, rfl, whenCalibrated_ends rfl fun hf => readResult_ends _ _ rfl nofun rfl nofun fun _ => hf⟩
  | rdPower =>
    exact ⟨_, rfl, whenCalibrated_ends rfl fun hf => readResult_ends _ _ rfl nofun rfl nofun fun _ => hf⟩
  | rdRaw off =>
    refine ⟨_, rfl, ?_⟩
    cases hr : sensorRegAt off with
    | none => exact .illegal (by simp [Instr.wellFormed, offsetInMap, hr])
    | some r =>
      have ho := offset_of_sensorRegAt hr
      exact readResult_ends r zext64 (by rw [ho]; rfl) nofun (by simp [Instr.wellFormed, offsetInMap, hr])
        nofun nofun
  | reset =>
    cases ha : writeOk (s.answer (writeRequest 0x00#8 0x8000#16)) with
    | false => exact ⟨_, by simp [exec, execReset, State.memWrite_eq, resetWord, ha], .resetFail rfl ha⟩
    | true => exact ⟨_, by simp [exec, execReset, State.memWrite_eq, resetWord, ha]; rfl, .resetOk _ rfl ha⟩
  | ping =>
    cases ha : readValue (s.answer (readRequest 0xFF#8)) with
    | none => exact ⟨_, by simp [exec, execPing, State.memRead_eq, ha], .pingFail rfl ha⟩
    | some v => exact ⟨_, by simp [exec, execPing, State.memRead_eq, ha]; rfl, .pingValue v _ rfl ha⟩

/-- The same, for a command known to have ended. -/
theorem ends_of_exec {i : Instr} {t : State} (h : exec i s = .next t) : Ends i s t := by
  obtain ⟨u, he, hu⟩ := exec_ends i s
  rw [he] at h
  cases h
  exact hu

end Sys2Proof.Machine
end

