-- ==== Sys2Proof/Laws/PerInstr.lean ====
section
/-! SUPPORT. Per command: its encoded word stands in its row of the opcode map (30_encoding.md R72). -/

namespace Sys2Proof.Laws.EncodeRow

/-- The encoded word matches the row's match under the row's mask. -/
def Statement (i : Instr) : Prop := encode i &&& (opcodeRow i).2 = (opcodeRow i).1

theorem cfgPack (avg vbusct vshct mode : Code) : Statement (.cfgPack avg vbusct vshct mode) :=
  commandWord_and_cfg_mask 0x1#4 avg vbusct vshct mode
theorem cfgApply (avg vbusct vshct mode : Code) : Statement (.cfgApply avg vbusct vshct mode) :=
  commandWord_and_cfg_mask 0x2#4 avg vbusct vshct mode
theorem calDerive : Statement .calDerive := rfl
theorem calibrate : Statement .calibrate := rfl
theorem decBus (raw : Half) : Statement (.decBus raw) := commandWord_and_raw_mask 0x5#4 raw
theorem decShunt (raw : Half) : Statement (.decShunt raw) := commandWord_and_raw_mask 0x6#4 raw
theorem decCurrent (raw : Half) : Statement (.decCurrent raw) := commandWord_and_raw_mask 0x7#4 raw
theorem decPower (raw : Half) : Statement (.decPower raw) := commandWord_and_raw_mask 0x8#4 raw
theorem rdBus : Statement .rdBus := rfl
theorem rdShunt : Statement .rdShunt := rfl
theorem rdCurrent : Statement .rdCurrent := rfl
theorem rdPower : Statement .rdPower := rfl
theorem rdRaw (off : Byte) : Statement (.rdRaw off) := commandWord_and_reg_mask 0xD#4 off
theorem reset : Statement .reset := rfl
theorem ping : Statement .ping := rfl

end Sys2Proof.Laws.EncodeRow
end

