-- ==== Sys2Proof/Laws/Unspecified.lean ====
section
/-! SUPPORT. States that differ only in unspecified values: what they agree on, and that every shared operation
keeps the relation. -/

namespace Sys2Proof.Machine.State.SameButUnspecified

variable {s t : State} (h : s.SameButUnspecified t)

include h

theorem facade_eq : t.facade = s.facade := by rw [h.rest]
theorem resValid_eq : t.resValid = s.resValid := by rw [h.rest]
theorem err_eq : t.err = s.err := by rw [h.rest]
theorem calz_eq : t.calz = s.calz := by rw [h.rest]
theorem calovf_eq : t.calovf = s.calovf := by rw [h.rest]
theorem cmd_eq : t.cmd = s.cmd := by rw [h.rest]
theorem opa_eq : t.opa = s.opa := by rw [h.rest]
theorem opb_eq : t.opb = s.opb := by rw [h.rest]
theorem cmdValid_eq : t.cmdValid = s.cmdValid := by rw [h.rest]
theorem done_eq : t.done = s.done := by rw [h.rest]
theorem hostActions_eq : t.hostActions = s.hostActions := by rw [h.rest]
theorem busLog_eq : t.busLog = s.busLog := by rw [h.rest]
theorem busScript_eq : t.busScript = s.busScript := by rw [h.rest]
theorem resets_eq : t.resets = s.resets := by rw [h.rest]

theorem answer_eq (q : BusRequest) : t.answer q = s.answer q := answer_congr h.busLog_eq h.busScript_eq q
theorem derived_eq : t.derived = s.derived := by rw [derived, rshunt, imax, h.opa_eq, h.opb_eq, ← rshunt, ← imax, ← derived]
theorem calOperandZero_eq : t.calOperandZero = s.calOperandZero := by
  rw [calOperandZero, rshunt, imax, h.opa_eq, h.opb_eq, ← rshunt, ← imax, ← calOperandZero]
theorem takesCommand_eq : t.takesCommand = s.takesCommand := by
  rw [takesCommand, h.cmdValid_eq, h.done_eq, ← takesCommand]

theorem succeed (v : Result) : (s.succeed v).SameButUnspecified (t.succeed v) :=
  ⟨by rw [h.rest]; rfl, h.cache, fun _ => rfl⟩
theorem raise (e : ErrKind) : (s.raise e).SameButUnspecified (t.raise e) :=
  ⟨by rw [h.rest]; rfl, h.cache, nofun⟩
theorem transact (q : BusRequest) : (s.transact q).SameButUnspecified (t.transact q) :=
  ⟨by simp only [State.transact, h.answer_eq]; rw [h.rest], h.cache, h.result⟩
theorem setFlags (z o : Bool) : (s.setFlags z o).SameButUnspecified (t.setFlags z o) :=
  ⟨by rw [h.rest]; rfl, h.cache, h.result⟩
theorem setFacade {f : Facade} (hf : f = .calibrated → s.facade = .calibrated) :
    (s.setFacade f).SameButUnspecified (t.setFacade f) :=
  ⟨by rw [h.rest]; rfl, fun hc => h.cache (hf hc), h.result⟩
theorem commit (k p c : Half) : (s.commit k p c).SameButUnspecified (t.commit k p c) :=
  ⟨by rw [h.rest]; rfl, fun _ => ⟨rfl, rfl, rfl⟩, h.result⟩
theorem raiseDone : s.raiseDone.SameButUnspecified t.raiseDone := ⟨by rw [h.rest]; rfl, h.cache, h.result⟩
theorem blockReset : s.blockReset.SameButUnspecified t.blockReset := by
  have ht : t.blockReset = s.blockReset := by rw [h.rest]; rfl
  rw [ht]
  exact ⟨rfl, fun _ => ⟨rfl, rfl, rfl⟩, fun _ => rfl⟩

end Sys2Proof.Machine.State.SameButUnspecified
end

