-- ==== Sys2Proof/Tests/Slice0.lean ====
section
/-! SUPPORT. Tests: ill-formed terms and illegal words refused, words written out from 30_encoding.md, vectors of
95_test_vectors.md, and for every statement with hypotheses a state and operands that meet them. -/

namespace Sys2Proof.Tests

open Sys2Proof.Machine

/-! ## Small states -/

/-- UNINIT, with values in the registers that a command must not touch. -/
def uninit : State where
  facade := .uninit
  curLsb := 9#16
  pwrLsb := 8#16
  calVal := 7#16
  res := 0xDEAD#64
  resValid := false
  err := .illegalCmd
  calz := true
  calovf := true
  cmd := 0#32
  opa := 0#32
  opb := 0#32
  cmdValid := false
  done := false
  hostActions := []
  busLog := []
  busScript := []
  resets := 0

/-- CONFIGURED. -/
def configured : State := { uninit with facade := .configured }

/-- CALIBRATED, with the cache of 95_test_vectors.md W1. -/
def calibrated : State :=
  { uninit with facade := .calibrated, curLsb := 1#16, pwrLsb := 25#16, calVal := 0x0200#16 }

/-- The ports OPA and OPB at two values. -/
def ports (s : State) (r i : Word) : State := { s with opa := r, opb := i }

/-- The operands of 95_test_vectors.md W1: 0.1 Ω and 3.2767 A. -/
def w1 (s : State) : State := ports s 100000#32 3276700#32

/-- The environment's next answers. -/
def answers (s : State) (l : List BusAnswer) : State := { s with busScript := l }

/-- The host's next actions. -/
def host (s : State) (l : List HostAction) : State := { s with hostActions := l }

/-- A write acknowledged. -/
def ok : BusAnswer := .transfer 3 []

/-- A read of two bytes. -/
def bytes (b0 b1 : Byte) : BusAnswer := .transfer 1 [b0, b1]

/-- The state after a command has a property. -/
def after (i : Instr) (s : State) (p : State → Bool) : Bool :=
  match exec i s with
  | .next t => p t
  | .fault _ => false
  | .refused _ => false

/-- The state after a step has a property. -/
def afterStep (s : State) (p : State → Bool) : Bool :=
  match step s with
  | .next t => p t
  | .fault _ => false
  | .refused _ => false

/-- The bytes a request sends, without the address, which no test can know. -/
def sent : BusRequest → List Byte
  | .write _ b => b
  | .writeThenRead _ b _ => b

/-- What the bus has seen. -/
def traffic (s : State) : List (List Byte) := s.busLog.map fun t => sent t.request

/-- RES, RES_VALID = 1, ERR = 0 and STATE. -/
def gives (v : Result) (f : Facade) (s : State) : Bool :=
  decide (s.res = v ∧ s.resValid = true ∧ s.err = .none ∧ s.facade = f)

/-- ERR, RES_VALID = 0, RES as it was and STATE. -/
def refuses (e : ErrKind) (f : Facade) (s : State) : Bool :=
  decide (s.res = 0xDEAD#64 ∧ s.resValid = false ∧ s.err = e ∧ s.facade = f)

/-! ## WellFormed -/

theorem test_rdRaw_outside_the_map_is_ill_formed :
    Instr.wellFormed (.rdRaw 0x08) = false ∧ Instr.wellFormed (.rdRaw 0xFE) = false := by decide

theorem test_rdRaw_in_the_map_is_well_formed :
    Instr.wellFormed (.rdRaw 0x00) = true ∧ Instr.wellFormed (.rdRaw 0x07) = true ∧
      Instr.wellFormed (.rdRaw 0xFF) = true := by decide

theorem test_all_codes_are_well_formed : Instr.wellFormed (.cfgPack 7 7 7 7) = true := by decide

/-! ## Decode: one word of every row, from 30_encoding.md R71 and R72 and the examples of the command rules -/

theorem test_decode_cfgPack : decode 0b00010000000000000000011101010110#32 = .ok (.cfgPack 3 5 2 6) := by decide
theorem test_decode_cfgApply : decode 0b00100000000000000000000100100111#32 = .ok (.cfgApply 0 4 4 7) := by decide
theorem test_decode_calDerive : decode 0b00110000000000000000000000000000#32 = .ok .calDerive := by decide
theorem test_decode_calibrate : decode 0b01000000000000000000000000000000#32 = .ok .calibrate := by decide
theorem test_decode_decBus : decode 0b01010000000000000010010110000000#32 = .ok (.decBus 0x2580) := by decide
theorem test_decode_decShunt : decode 0b01100000000000001111110000011000#32 = .ok (.decShunt 0xFC18) := by decide
theorem test_decode_decCurrent : decode 0b01110000000000001000000000000001#32 = .ok (.decCurrent 0x8001) := by decide
theorem test_decode_decPower : decode 0b10000000000000000000000000101000#32 = .ok (.decPower 0x0028) := by decide
theorem test_decode_rdBus : decode 0b10010000000000000000000000000000#32 = .ok .rdBus := by decide
theorem test_decode_rdShunt : decode 0b10100000000000000000000000000000#32 = .ok .rdShunt := by decide
theorem test_decode_rdCurrent : decode 0b10110000000000000000000000000000#32 = .ok .rdCurrent := by decide
theorem test_decode_rdPower : decode 0b11000000000000000000000000000000#32 = .ok .rdPower := by decide
theorem test_decode_rdRaw : decode 0b11010000000000000000000011111111#32 = .ok (.rdRaw 0xFF) := by decide
theorem test_decode_reset : decode 0b11100000000000000000000000000000#32 = .ok .reset := by decide
theorem test_decode_ping : decode 0b11110000000000000000000000000000#32 = .ok .ping := by decide

/-- V-ILL-1, V-ILL-2: OP = 0 wins over every other check. -/
theorem test_reject_reserved_op :
    decode 0x00000000#32 = .error .reservedOp ∧ decode 0x0FFFFFFF#32 = .error .reservedOp := by decide

/-- V-CFG-10, V-ILL-4 and 95_test_vectors.md 2.4. -/
theorem test_reject_reserved_field :
    decode 0x10010127#32 = .error .reservedField ∧ decode 0x40010000#32 = .error .reservedField ∧
      decode 0x70010001#32 = .error .reservedField := by decide

/-- V-CFG-9, V-CFG-16, V-RD-19, V-RD-20, V-DEV-9, V-ILL-3. -/
theorem test_reject_zero_field :
    decode 0x10001000#32 = .error .zeroField ∧ decode 0x2000F127#32 = .error .zeroField ∧
      decode 0xD00001FF#32 = .error .zeroField ∧ decode 0x90000001#32 = .error .zeroField ∧
      decode 0xF0008000#32 = .error .zeroField ∧ decode 0x30000001#32 = .error .zeroField := by decide

/-- V-RD-17, V-RD-18 and program P3. -/
theorem test_reject_offset :
    decode 0xD0000008#32 = .error .offsetNotInMap ∧ decode 0xD00000FE#32 = .error .offsetNotInMap ∧
      decode 0xD0000042#32 = .error .offsetNotInMap := by decide

theorem test_encode_fields :
    encode (.cfgApply 3 5 2 6) = 0x20000756#32 ∧ encode (.decShunt 0x03E8) = 0x600003E8#32 ∧
      encode (.rdRaw 0x07) = 0xD0000007#32 := by decide

theorem test_table_word :
    decodeTableWord 32 0x10000756 = some (.cfgPack 3 5 2 6) ∧ decodeTableWord 32 0 = none ∧
      decodeTableWord 8 0xFF00000000 = none := by decide

/-! ## Configuration packer: V-CFG-4, V-CFG-11, V-CFG-15 -/

theorem test_cfgPack_places_the_codes :
    after (.cfgPack 3 5 2 6) uninit (fun t => gives 0x0756 .uninit t && (traffic t).isEmpty) = true := by decide

theorem test_cfgApply_configures :
    after (.cfgApply 0 4 4 7) (answers uninit [ok])
      (fun t => gives 0x0127 .configured t && decide (traffic t = [[0x00, 0x01, 0x27]])) = true := by decide

theorem test_cfgApply_fails :
    after (.cfgApply 7 7 7 7) (answers calibrated [.nack])
      (fun t => refuses .transport .calibrated t && decide (traffic t = [[0x00, 0x0F, 0xFF]])) = true := by decide

/-! ## Calibration: V-CAL-10, V-CAL-19, V-CALB-1, V-CALB-9, and the boundaries of the derivation -/

/-- V-CAL-10: an overflowed value keeps its low 16 bits. -/
theorem test_calDerive_overflow :
    after .calDerive (ports uninit 781 1)
      (fun t => gives 0x0000001400190001 .uninit t && (!t.calz && t.calovf)) = true := by decide

/-- V-CAL-19: CALZ and CALOVF keep their values. -/
theorem test_calDerive_precondition :
    after .calDerive (ports uninit 0 3276700)
      (fun t => refuses .calPrecondition .uninit t && (t.calz && t.calovf)) = true := by decide

/-- V-CALB-1. -/
theorem test_calibrate_commits :
    after .calibrate (answers (w1 configured) [ok, bytes 0x02 0x00])
      (fun t => gives 0x0000020000190001 .calibrated t &&
        decide (t.curLsb = 1 ∧ t.pwrLsb = 25 ∧ t.calVal = 0x0200 ∧
          traffic t = [[0x05, 0x02, 0x00], [0x05]])) = true := by decide

/-- V-CALB-9: a mismatch invalidates and keeps the cached values. -/
theorem test_calibrate_mismatch :
    after .calibrate (answers (w1 calibrated) [ok, bytes 0x00 0x00])
      (fun t => refuses .calVerifyMismatch .configured t &&
        decide (t.curLsb = 1 ∧ t.pwrLsb = 25 ∧ t.calVal = 0x0200 ∧ t.calz = false)) = true := by decide

/-- V-CAL-2, V-CAL-8, V-CAL-9, V-CAL-11, V-CAL-22. -/
theorem test_derivation_boundaries :
    deriveCal 100000 3276701 = ⟨2, 50, 0x0100, false, false⟩ ∧
      deriveCal 51200001 1 = ⟨1, 25, 0, true, false⟩ ∧ deriveCal 782 1 = ⟨1, 25, 0xFFC1, false, false⟩ ∧
      deriveCal 1000 4294967295 = ⟨1311, 32775, 0x0027, false, false⟩ ∧
      deriveCal 100000 330946700 = ⟨101, 2525, 5, false, false⟩ := by decide

/-! ## Decoder: V-DB-5, V-DS-6, V-DC-7, V-DC-10, V-DP-6, V-DP-8, V-RD-1 to V-RD-18 -/

theorem test_decBus_is_unsigned :
    after (.decBus 0x8000) uninit (gives 0x0000000002710000 .uninit) = true := by decide

theorem test_decShunt_is_signed :
    after (.decShunt 0x8000) uninit (gives 0xFFFFFFFFFB1E0000 .uninit) = true := by decide

theorem test_decCurrent_exceeds_32_bits :
    after (.decCurrent 0x7FFF) { calibrated with curLsb := 1311 }
      (gives 0x00000001000BFFE4 .calibrated) = true := by decide

theorem test_decCurrent_gate :
    after (.decCurrent 0x0001) configured (refuses .notCalibrated .configured) = true := by decide

theorem test_decPower_maximum :
    after (.decPower 0xFFFF) { calibrated with pwrLsb := 32775 }
      (gives 0x000000320289FD44 .calibrated) = true := by decide

theorem test_decPower_gate :
    after (.decPower 0x0028) uninit (refuses .notCalibrated .uninit) = true := by decide

theorem test_rdBus_reads_offset_2 :
    after .rdBus (answers configured [bytes 0x25 0x80])
      (fun t => gives 12000000 .configured t && decide (traffic t = [[0x02]])) = true := by decide

theorem test_rdBus_gate :
    after .rdBus (answers uninit [bytes 0x25 0x80])
      (fun t => refuses .notConfigured .uninit t && (traffic t).isEmpty) = true := by decide

/-- V-RD-6: the first byte is the high byte. -/
theorem test_rdShunt_byte_order :
    after .rdShunt (answers configured [bytes 0xE8 0x03])
      (fun t => gives 0xFFFFFFFFFF15BD4C .configured t && decide (traffic t = [[0x01]])) = true := by decide

theorem test_rdCurrent_is_signed :
    after .rdCurrent (answers calibrated [bytes 0xFF 0xFF])
      (fun t => gives 0xFFFFFFFFFFFFFF9C .calibrated t && decide (traffic t = [[0x04]])) = true := by decide

theorem test_rdPower_reads_offset_3 :
    after .rdPower (answers calibrated [bytes 0x00 0x28])
      (fun t => gives 100000 .calibrated t && decide (traffic t = [[0x03]])) = true := by decide

/-- V-RD-11, with one byte returned. -/
theorem test_rdPower_short_read :
    after .rdPower (answers calibrated [.transfer 1 [0x00]]) (refuses .transport .calibrated) = true := by decide

/-- V-RD-14: zero-extended although the register is signed. -/
theorem test_rdRaw_zero_extends :
    after (.rdRaw 0x04) (answers uninit [bytes 0xFF 0xFF])
      (fun t => gives 0xFFFF .uninit t && decide (traffic t = [[0x04]])) = true := by decide

/-! ## Device control: V-DEV-1, V-DEV-3, V-DEV-4, V-DEV-5, V-DEV-7 -/

theorem test_reset_sends_the_reset_word :
    after .reset (answers calibrated [ok])
      (fun t => gives 0x8000 .uninit t &&
        decide (t.curLsb = 1 ∧ t.calVal = 0x0200 ∧ traffic t = [[0x00, 0x80, 0x00]])) = true := by decide

theorem test_reset_fails :
    after .reset (answers configured [.transfer 2 []]) (refuses .transport .uninit) = true := by decide

theorem test_ping_answers :
    after .ping (answers uninit [bytes 0x22 0x60]) (gives 1 .uninit) = true ∧
      after .ping (answers uninit [bytes 0x60 0x22]) (gives 0 .uninit) = true := by decide

theorem test_ping_fails :
    after .ping (answers uninit [.absent])
      (fun t => decide (t.res = 0 ∧ t.resValid = true ∧ t.err = .transport)) = true := by decide

/-! ## The step, STATUS and the host -/

theorem test_fetched_word_runs_after_reset :
    afterStep (State.reset.withFetchWord 32 0x50002580)
      (fun t => gives 12000000 .uninit t && t.done) = true := by decide

/-- Program P2, step 7: STATUS = 0x0021 from CONFIGURED. -/
theorem test_illegal_word_status :
    afterStep ({ configured with calz := false, calovf := false }.presentWord 0x00000000)
      (fun t => decide (t.status = 0x0021 ∧ t.res = 0xDEAD) && t.done) = true := by decide

/-- Program P5, step 7, and program P3, step 2. -/
theorem test_status_words :
    { configured with err := .notCalibrated, calz := false, calovf := false }.status = 0x0031#16 ∧
      { uninit with err := .none, resValid := true, calz := false }.status = 0x0084#16 := by decide

theorem test_block_reset :
    afterStep { host calibrated [.blockReset] with cmdValid := true, done := true }
      (fun t => decide (t.status = 0 ∧ t.resets = 1) && !t.done && (traffic t).isEmpty) = true := by decide

/-- 10_state.md R34 and R38: the other output ports. -/
theorem test_output_ports :
    let o := { calibrated with done := true }.outputs
    o.res = 0xDEAD#64 ∧ o.lsbCur = 1#16 ∧ o.lsbPwr = 25#16 ∧ o.cal = 0x0200#16 ∧ o.done = true := by decide

/-! ## Assembler: the examples of 30_encoding.md R78 -/

theorem test_assemble_comment :
    assembleLine "CFG_PACK    3, 5, 2, 6     ; each 0..7" = some ⟨0x10000756, none⟩ := by decide
theorem test_assemble_signed : assembleLine "DEC_SHUNT -1000" = some ⟨0x6000FC18, none⟩ := by decide
theorem test_assemble_operands :
    assembleLine "CAL_DERIVE 100000, 3276700" = some ⟨0x30000000, some (0x186A0, 0x31FF9C)⟩ := by decide
theorem test_assemble_rejects :
    assembleLine "RD_RAW 0xFE" = none ∧ assembleLine "CFG_PACK 8, 0, 0, 0" = none := by decide

/-! ## Witnesses: states and operands that meet the hypotheses of the statements, clause by clause -/

/-- A command presented and not yet taken. -/
def presented (s : State) (w : Word) : State := { s with cmd := w, cmdValid := true }

/-- A command done and not yet withdrawn. -/
def finished (s : State) : State := { s with cmdValid := true, done := true }

theorem witness_DecodeOfEncodeIsTheCommand :
    Instr.wellFormed (.rdRaw 0xFF) = true ∧ Instr.wellFormed (.cfgPack 7 0 7 0) = true := by decide

theorem witness_EncodeOfDecodeIsTheWord : ∃ w i, decode w = .ok i ∧ i = .rdRaw 0xFF :=
  ⟨0xD00000FF#32, .rdRaw 0xFF, by decide⟩

theorem witness_LegalWordsMatchTheOpcodeMap : ∃ w i, decode w = .ok i ∧ i = .cfgApply 7 7 7 7 :=
  ⟨0x20000FFF#32, .cfgApply 7 7 7 7, by decide⟩

theorem witness_IllegalWordsAreTheFourCases :
    ∃ (s : State) (e : DecodeReject), s.cmdValid = true ∧ s.done = false ∧ decode s.cmd = .error e :=
  ⟨presented calibrated 0xD0000008#32, .offsetNotInMap, by decide⟩

theorem witness_IllegalWord : ∃ (s : State) (w : Word), s.takesCommand = true ∧ s.commandWord = w ∧ w = 0xE0000001#32 :=
  ⟨presented calibrated 0xE0000001#32, 0xE0000001#32, by decide⟩

theorem witness_StepRunsTheDecodedCommand :
    ∃ (s : State) (i : Instr), s.cmdValid = true ∧ s.done = false ∧ decode s.cmd = .ok i ∧ i = .calibrate :=
  ⟨presented (w1 configured) 0x40000000#32, .calibrate, by decide⟩

theorem witness_HandshakeTakesOneCommandAtATime :
    (∃ s : State, s.cmdValid = true ∧ s.done = false) ∧
    (∃ s : State, s.cmdValid = true ∧ s.done = true ∧ s.hostActions = []) ∧
    (∃ (s : State) (rest : List HostAction), s.cmdValid = true ∧ s.done = true ∧
      s.hostActions = .withdraw :: rest) ∧
    (∃ (s : State) (c a b : Word) (rest : List HostAction), s.cmdValid = true ∧ s.done = true ∧
      s.hostActions = .present c a b :: rest) ∧
    (∃ s : State, s.cmdValid = false ∧ s.done = false ∧ s.hostActions = []) ∧
    (∃ (s : State) (rest : List HostAction), s.cmdValid = false ∧ s.done = false ∧
      s.hostActions = .withdraw :: rest) ∧
    (∃ (s : State) (c a b : Word) (rest : List HostAction), s.cmdValid = false ∧ s.done = false ∧
      s.hostActions = .present c a b :: rest) :=
  ⟨⟨presented uninit 0#32, by decide⟩, ⟨finished uninit, by decide⟩,
    ⟨host (finished uninit) [.withdraw], [], by decide⟩,
    ⟨host (finished uninit) [.present 0xF0000000#32 1#32 2#32], _, _, _, [], by decide, by decide, rfl⟩,
    ⟨uninit, by decide⟩, ⟨host uninit [.withdraw], [], by decide⟩,
    ⟨host uninit [.present 0xF0000000#32 1#32 2#32, .withdraw], _, _, _, _, by decide, by decide, rfl⟩⟩

theorem witness_BlockResetSetsEveryRegister :
    (∃ (s : State) (rest : List HostAction), s.cmdValid = false ∧ s.hostActions = .blockReset :: rest) ∧
    (∃ (s : State) (rest : List HostAction), s.cmdValid = true ∧ s.done = true ∧
      s.hostActions = .blockReset :: rest) :=
  ⟨⟨host calibrated [.blockReset], [], by decide⟩, ⟨host (finished calibrated) [.blockReset], [], by decide⟩⟩

theorem witness_BlockResetMakesNoTransaction_reset : ∃ (s t : State) (rest : List HostAction),
    s.cmdValid = false ∧ s.hostActions = .blockReset :: rest ∧ step s = .next t :=
  ⟨host calibrated [.blockReset], _, [], rfl, rfl, rfl⟩

theorem witness_BlockResetMakesNoTransaction_word :
    ∃ (i : Instr) (s t : State) (new : List BusTransaction) (tr : BusTransaction), exec i s = .next t ∧
      t.busLog = s.busLog ++ new ∧ tr ∈ new ∧
      tr.request = .write Config.pDevAddr [0x00#8, 0x80#8, 0x00#8] :=
  ⟨.reset, answers calibrated [ok], _, _, _, rfl, rfl, List.mem_singleton.2 rfl, rfl⟩

theorem witness_BlockResetMakesNoTransaction_calibrated :
    ∃ s t : State, step s = .next t ∧ s.facade ≠ .calibrated ∧ t.facade = .calibrated :=
  ⟨presented (answers (w1 configured) [ok, bytes 0x02 0x00]) 0x40000000#32, _, rfl, by decide, by decide⟩

theorem witness_AccessesAreOneTransactionOfTheirBytes : ∃ (s : State) (off b0 b1 : Byte),
    s.answer (.writeThenRead Config.pDevAddr [off] 2) = .transfer 1 [b0, b1] :=
  ⟨answers uninit [bytes 0xFF 0x01], 0xFF#8, 0xFF#8, 0x01#8, rfl⟩

theorem witness_ShortTransfersFailWithoutRetry :
    ∃ (i : Instr) (s t : State) (before after : List BusTransaction) (tr : BusTransaction),
      exec i s = .next t ∧ t.busLog = s.busLog ++ before ++ tr :: after ∧ tr.failed = true :=
  ⟨.calibrate, answers (w1 configured) [ok, .transfer 1 [0x02]], _, [_], [], _, rfl, rfl, rfl⟩

theorem witness_CommandsMakeOnlyTheTransactionsTheirRulesList :
    ∃ (i : Instr) (s t : State), i.wellFormed = true ∧ exec i s = .next t ∧ i = .rdRaw 0x07 :=
  ⟨.rdRaw 0x07, uninit, _, by decide, rfl, rfl⟩

theorem witness_PackConfigIsInjective :
    (∃ a b v m a' b' v' m' : Code, packConfig a b v m = packConfig a' b' v' m') ∧
      ∃ w : Half, w.toNat ≤ 0x0FFF ∧ w = 0x0FFF :=
  ⟨⟨7, 7, 7, 7, 7, 7, 7, 7, rfl⟩, 0x0FFF#16, by decide⟩

theorem witness_CfgPackPacksWithoutWriting :
    (∃ w : Word, w.extractLsb' 28 4 = 0x1#4 ∧ w.extractLsb' 16 12 ≠ 0#12) ∧
    (∃ w : Word, w.extractLsb' 28 4 = 0x1#4 ∧ w.extractLsb' 12 4 ≠ 0#4) ∧
    (∃ w, decode w = .ok (.cfgPack 7 7 7 7)) :=
  ⟨⟨0x18000000#32, by decide⟩, ⟨0x10001000#32, by decide⟩, ⟨0x10000FFF#32, by decide⟩⟩

theorem witness_CfgApplyWritesThePackedWord :
    (∃ w : Word, w.extractLsb' 28 4 = 0x2#4 ∧ w.extractLsb' 16 12 ≠ 0#12) ∧
    (∃ w : Word, w.extractLsb' 28 4 = 0x2#4 ∧ w.extractLsb' 12 4 ≠ 0#4) ∧
    (∃ s : State, writeOk (s.answer (writeRequest 0x00#8 (packConfig 0 4 4 7))) = true) ∧
    (∃ s : State, writeOk (s.answer (writeRequest 0x00#8 (packConfig 0 4 4 7))) = false) :=
  ⟨⟨0x20010000#32, by decide⟩, ⟨0x2000F127#32, by decide⟩, ⟨answers uninit [ok], rfl⟩,
    ⟨answers uninit [.transfer 2 []], rfl⟩⟩

theorem witness_CurrentLsbIsTheLeastSufficientMultiple :
    (1 ≤ 1 ∧ 1 < 2 ^ 32) ∧ (1 ≤ 4294967295 ∧ 4294967295 < 2 ^ 32 ∧ 4294967295 ≤ 1311 * 3276700) ∧
      330946700 = 101 * 3276700 := by decide

theorem witness_PowerLsbIsTwentyFiveCurrentLsbs : ∃ i : Nat, 1 ≤ i ∧ i < 2 ^ 32 ∧ currentLsbOf i = 1311 :=
  ⟨4294967295, by decide⟩

theorem witness_CalibrationValueIsTheFloorQuotient : ∃ r k : Nat, 1 ≤ k * r ∧ calFullOf r k = 51200000 :=
  ⟨1, 1, by decide⟩

theorem witness_CalibrationValueKeepsTheLowSixteenBits :
    (∃ r i : Nat, 1 ≤ r ∧ 1 ≤ i ∧ currentLsbOf i * r = 781) ∧
      ∃ r i : Nat, 1 ≤ r ∧ 1 ≤ i ∧ currentLsbOf i * r = 782 :=
  ⟨⟨781, 1, by decide⟩, ⟨782, 1, by decide⟩⟩

theorem witness_ZeroCalibrationAndMonotonicityLaws :
    (∃ r i : Nat, 1 ≤ r ∧ 1 ≤ i ∧ (deriveCal r i).z = true) ∧
      ∃ r r' k k' : Nat, 1 ≤ r ∧ 1 ≤ k ∧ r ≤ r' ∧ k ≤ k' :=
  ⟨⟨51200001, 1, by decide⟩, ⟨1, 2, 1, 1311, by decide⟩⟩

theorem witness_DeriveCalAndItsResultLayout : ∃ r i : Nat, 1 ≤ r ∧ 1 ≤ i ∧ i < 2 ^ 32 ∧ i = 4294967295 :=
  ⟨1, 4294967295, by decide⟩

theorem witness_CalDeriveTouchesNeitherSensorNorCache :
    (∃ w : Word, w.extractLsb' 28 4 = 0x3#4 ∧ w.extractLsb' 0 28 ≠ 0#28) ∧
    (∃ s : State, s.opa = 0#32) ∧ (∃ s : State, s.opb = 0#32) ∧ ∃ s : State, s.opa ≠ 0#32 ∧ s.opb ≠ 0#32 :=
  ⟨⟨0x30000001#32, by decide⟩, ⟨ports uninit 0 1, by decide⟩, ⟨ports uninit 1 0, by decide⟩,
    ⟨ports uninit 1 1, by decide⟩⟩

theorem witness_CalibrateWritesReadsBackAndCommits :
    (∃ w : Word, w.extractLsb' 28 4 = 0x4#4 ∧ w.extractLsb' 0 28 ≠ 0#28) ∧
    (∃ s : State, s.facade = .uninit) ∧
    (∃ s : State, s.facade ≠ .uninit ∧ (s.opa = 0#32 ∨ s.opb = 0#32)) ∧
    (∃ (s : State) (d : CalParams), s.facade ≠ .uninit ∧ s.opa ≠ 0#32 ∧ s.opb ≠ 0#32 ∧
      d = deriveCal s.opa.toNat s.opb.toNat ∧ writeOk (s.answer (writeRequest 0x05#8 d.c)) = false) ∧
    (∃ (s t : State) (d : CalParams), s.facade ≠ .uninit ∧ s.opa ≠ 0#32 ∧ s.opb ≠ 0#32 ∧
      d = deriveCal s.opa.toNat s.opb.toNat ∧ t = s.transact (writeRequest 0x05#8 d.c) ∧
      writeOk (s.answer (writeRequest 0x05#8 d.c)) = true ∧
      readValue (t.answer (readRequest 0x05#8)) = none) ∧
    (∃ (s t : State) (d : CalParams) (v : Half), s.facade ≠ .uninit ∧ s.opa ≠ 0#32 ∧ s.opb ≠ 0#32 ∧
      d = deriveCal s.opa.toNat s.opb.toNat ∧ t = s.transact (writeRequest 0x05#8 d.c) ∧
      writeOk (s.answer (writeRequest 0x05#8 d.c)) = true ∧
      readValue (t.answer (readRequest 0x05#8)) = some v ∧ v ≠ d.c) ∧
    (∃ (s t : State) (d : CalParams), s.facade ≠ .uninit ∧ s.opa ≠ 0#32 ∧ s.opb ≠ 0#32 ∧
      d = deriveCal s.opa.toNat s.opb.toNat ∧ t = s.transact (writeRequest 0x05#8 d.c) ∧
      writeOk (s.answer (writeRequest 0x05#8 d.c)) = true ∧
      readValue (t.answer (readRequest 0x05#8)) = some d.c) :=
  ⟨⟨0x40010000#32, by decide⟩, ⟨uninit, by decide⟩, ⟨ports configured 0 1, by decide⟩,
    ⟨answers (w1 configured) [.nack], _, by decide, by decide, by decide, rfl, rfl⟩,
    ⟨answers (w1 calibrated) [ok, .nack], _, _, by decide, by decide, by decide, rfl, rfl, rfl, rfl⟩,
    ⟨answers (w1 calibrated) [ok, bytes 0x00 0x02], _, _, 0x0002#16, by decide, by decide, by decide, rfl, rfl,
      rfl, rfl, by decide⟩,
    ⟨answers (w1 configured) [ok, bytes 0x02 0x00], _, _, by decide, by decide, by decide, rfl, rfl, rfl,
      by decide⟩⟩

theorem witness_DecodedValuesAreExactProducts :
    (1 ≤ 1 ∧ 1 ≤ 1311) ∧ (1 ≤ 1311 ∧ 1311 ≤ 1311) ∧ (25 ≤ 25 ∧ 25 ≤ 32775) ∧ (25 ≤ 32775 ∧ 32775 ≤ 32775) := by
  decide

theorem witness_DecodedValuesFitTheResultRegister : (0 : Nat) < 2 ^ 16 ∧ (65535 : Nat) < 2 ^ 16 := by decide

theorem witness_illegal_words_of_the_raw_format :
    (∃ w : Word, w.extractLsb' 28 4 = 0x5#4 ∧ w.extractLsb' 16 12 ≠ 0#12) ∧
    (∃ w : Word, w.extractLsb' 28 4 = 0x6#4 ∧ w.extractLsb' 16 12 ≠ 0#12) ∧
    (∃ w : Word, w.extractLsb' 28 4 = 0x7#4 ∧ w.extractLsb' 16 12 ≠ 0#12) ∧
    (∃ w : Word, w.extractLsb' 28 4 = 0x8#4 ∧ w.extractLsb' 16 12 ≠ 0#12) :=
  ⟨⟨0x50010000#32, by decide⟩, ⟨0x68000000#32, by decide⟩, ⟨0x70010001#32, by decide⟩,
    ⟨0x8FFF0000#32, by decide⟩⟩

theorem witness_illegal_words_without_operands :
    (∃ w : Word, w.extractLsb' 28 4 = 0x9#4 ∧ w.extractLsb' 0 28 ≠ 0#28) ∧
    (∃ w : Word, w.extractLsb' 28 4 = 0xA#4 ∧ w.extractLsb' 0 28 ≠ 0#28) ∧
    (∃ w : Word, w.extractLsb' 28 4 = 0xB#4 ∧ w.extractLsb' 0 28 ≠ 0#28) ∧
    (∃ w : Word, w.extractLsb' 28 4 = 0xC#4 ∧ w.extractLsb' 0 28 ≠ 0#28) ∧
    (∃ w : Word, w.extractLsb' 28 4 = 0xE#4 ∧ w.extractLsb' 0 28 ≠ 0#28) ∧
    (∃ w : Word, w.extractLsb' 28 4 = 0xF#4 ∧ w.extractLsb' 0 28 ≠ 0#28) :=
  ⟨⟨0x90000001#32, by decide⟩, ⟨0xA8000000#32, by decide⟩, ⟨0xB0010000#32, by decide⟩,
    ⟨0xC0008000#32, by decide⟩, ⟨0xE0000001#32, by decide⟩, ⟨0xF0008000#32, by decide⟩⟩

/-- The gates of DEC_CURRENT, DEC_POWER, RD_CURRENT and RD_POWER. -/
theorem witness_calibrated_gates :
    (∃ s : State, s.facade ≠ .calibrated) ∧ (∃ s : State, s.facade = .calibrated ∧ s.curLsb = 1) :=
  ⟨⟨configured, by decide⟩, ⟨calibrated, by decide⟩⟩

theorem witness_RdBusReadsAndDecodes :
    (∃ s : State, s.facade = .uninit) ∧
    (∃ s : State, s.facade ≠ .uninit ∧ readValue (s.answer (readRequest 0x02#8)) = none) ∧
    (∃ (s : State) (v : Half), s.facade ≠ .uninit ∧ readValue (s.answer (readRequest 0x02#8)) = some v) :=
  ⟨⟨uninit, by decide⟩, ⟨answers configured [.nack], by decide, rfl⟩,
    ⟨answers configured [bytes 0x25 0x80], _, by decide, rfl⟩⟩

theorem witness_RdShuntReadsAndDecodes :
    (∃ s : State, s.facade = .uninit) ∧
    (∃ s : State, s.facade ≠ .uninit ∧ readValue (s.answer (readRequest 0x01#8)) = none) ∧
    (∃ (s : State) (v : Half), s.facade ≠ .uninit ∧ readValue (s.answer (readRequest 0x01#8)) = some v) :=
  ⟨⟨uninit, by decide⟩, ⟨answers configured [.absent], by decide, rfl⟩,
    ⟨answers calibrated [bytes 0x80 0x00], _, by decide, rfl⟩⟩

theorem witness_RdCurrentReadsAndDecodes :
    (∃ s : State, s.facade ≠ .calibrated) ∧
    (∃ s : State, s.facade = .calibrated ∧ readValue (s.answer (readRequest 0x04#8)) = none) ∧
    (∃ (s : State) (v : Half), s.facade = .calibrated ∧ readValue (s.answer (readRequest 0x04#8)) = some v) :=
  ⟨⟨uninit, by decide⟩, ⟨answers calibrated [.transfer 0 []], by decide, rfl⟩,
    ⟨answers calibrated [bytes 0xFF 0xFF], _, by decide, rfl⟩⟩

theorem witness_RdPowerReadsAndDecodes :
    (∃ s : State, s.facade ≠ .calibrated) ∧
    (∃ s : State, s.facade = .calibrated ∧ readValue (s.answer (readRequest 0x03#8)) = none) ∧
    (∃ (s : State) (v : Half), s.facade = .calibrated ∧ readValue (s.answer (readRequest 0x03#8)) = some v) :=
  ⟨⟨configured, by decide⟩, ⟨answers calibrated [.transfer 1 [0x01]], by decide, rfl⟩,
    ⟨answers calibrated [bytes 0xFF 0xFF], _, by decide, rfl⟩⟩

theorem witness_RdRawReturnsTheRegisterUndecoded :
    (∃ w : Word, w.extractLsb' 28 4 = 0xD#4 ∧ w.extractLsb' 16 12 ≠ 0#12) ∧
    (∃ w : Word, w.extractLsb' 28 4 = 0xD#4 ∧ w.extractLsb' 8 8 ≠ 0#8) ∧
    (∃ w : Word, w.extractLsb' 28 4 = 0xD#4 ∧ w.extractLsb' 0 8 ∉
      [0x00#8, 0x01#8, 0x02#8, 0x03#8, 0x04#8, 0x05#8, 0x06#8, 0x07#8, 0xFF#8]) ∧
    (∃ s : State, readValue (s.answer (readRequest 0x07#8)) = none) ∧
    (∃ (s : State) (v : Half), readValue (s.answer (readRequest 0xFF#8)) = some v) :=
  ⟨⟨0xD0010000#32, by decide⟩, ⟨0xD00001FF#32, by decide⟩, ⟨0xD0000008#32, by decide⟩,
    ⟨answers uninit [.nack], rfl⟩, ⟨answers uninit [bytes 0x22 0x60], _, rfl⟩⟩

theorem witness_ResetWritesTheResetWordAndLeavesUninit :
    (∃ s : State, writeOk (s.answer (writeRequest 0x00#8 0x8000#16)) = true) ∧
    (∃ s : State, writeOk (s.answer (writeRequest 0x00#8 0x8000#16)) = false) ∧
    (∃ s t : State, exec .reset s = .next t) :=
  ⟨⟨answers calibrated [ok], rfl⟩, ⟨answers calibrated [.nack], rfl⟩, ⟨calibrated, _, rfl⟩⟩

theorem witness_PingComparesTheIdentityConstant :
    (∃ s : State, readValue (s.answer (readRequest 0xFF#8)) = none) ∧
    (∃ s : State, readValue (s.answer (readRequest 0xFF#8)) = some 0x2260#16) ∧
    (∃ (s : State) (v : Half), readValue (s.answer (readRequest 0xFF#8)) = some v ∧ v ≠ 0x2260#16) :=
  ⟨⟨answers uninit [.absent], rfl⟩, ⟨answers uninit [bytes 0x22 0x60], by decide⟩,
    ⟨answers uninit [bytes 0x22 0x61], 0x2261#16, by decide, by decide⟩⟩

/-- For the statements about every command and every next state. -/
theorem witness_a_command_succeeds :
    ∃ (i : Instr) (s t : State), exec i s = .next t ∧ t.resValid = true ∧ t.err = .none ∧ i = .calibrate :=
  ⟨.calibrate, answers (w1 configured) [ok, bytes 0x02 0x00], _, rfl, by decide, by decide, rfl⟩

/-- For ErrHoldsTheOutcomeOfTheLastCommand, ResValidSaysWhetherResIsWritten and
ErrorsLeaveTheResultAndKeepEarlierWrites: a command that ends in an error. -/
theorem witness_a_command_ends_in_an_error :
    ∃ (i : Instr) (s t : State), exec i s = .next t ∧ t.resValid = false ∧ t.err = .calVerifyMismatch ∧
      i = .calibrate :=
  ⟨.calibrate, answers (w1 calibrated) [ok, bytes 0x00 0x00], _, rfl, by decide, by decide, rfl⟩

theorem witness_ErrorsLeaveTheResultAndKeepEarlierWrites :
    (∃ s t : State, exec .ping s = .next t ∧ t.err ≠ .none) ∧
    (∃ s t : State, exec .reset s = .next t ∧ t.err ≠ .none) ∧
    (∃ s t : State, exec .calDerive s = .next t ∧ t.err ≠ .none) :=
  ⟨⟨answers uninit [.nack], _, rfl, by decide⟩, ⟨answers uninit [.nack], _, rfl, by decide⟩,
    ⟨uninit, _, rfl, by decide⟩⟩

theorem witness_CalibrationFlagsAreWrittenOnlyByADerivation :
    (∃ s t : State, exec .calDerive s = .next t ∧ s.opa ≠ 0#32 ∧ s.opb ≠ 0#32) ∧
    (∃ s t : State, exec .calibrate s = .next t ∧ s.opa ≠ 0#32 ∧ s.opb ≠ 0#32 ∧ s.facade ≠ .uninit) ∧
    (∃ s t : State, exec .calibrate s = .next t ∧ s.facade = .uninit) :=
  ⟨⟨ports uninit 1 1, _, rfl, by decide, by decide⟩,
    ⟨answers (w1 configured) [.nack], _, rfl, by decide, by decide, by decide⟩, ⟨uninit, _, rfl, rfl⟩⟩

theorem witness_CacheValidityChangesOnlyAsStated :
    (∃ s t : State, exec .calibrate s = .next t ∧ s.facade ≠ .calibrated ∧ t.facade = .calibrated) ∧
    (∃ s t : State, exec .calibrate s = .next t ∧ s.facade = .calibrated ∧ t.facade ≠ .calibrated) ∧
    (∃ s t : State, exec .reset s = .next t ∧ s.facade = .calibrated ∧ t.facade ≠ .calibrated) :=
  ⟨⟨answers (w1 configured) [ok, bytes 0x02 0x00], _, rfl, by decide, by decide⟩,
    ⟨answers (w1 calibrated) [.nack], _, rfl, by decide, by decide⟩,
    ⟨answers calibrated [ok], _, rfl, by decide, by decide⟩⟩

theorem witness_StateChangesOnlyAsTheTableSays :
    (∃ s t : State, exec (.cfgApply 0 4 4 7) s = .next t ∧ t.facade = .configured) ∧
    (∃ s t : State, exec .calibrate s = .next t ∧ t.err = .notConfigured) ∧
    (∃ s t : State, exec .calibrate s = .next t ∧ t.err = .calPrecondition) ∧
    (∃ s t : State, exec .reset s = .next t) ∧ (∃ s t : State, exec .rdBus s = .next t) :=
  ⟨⟨answers uninit [ok], _, rfl, by decide⟩, ⟨uninit, _, rfl, by decide⟩,
    ⟨ports configured 0 0, _, rfl, by decide⟩, ⟨calibrated, _, rfl⟩, ⟨calibrated, _, rfl⟩⟩

theorem witness_ErrorKindsHaveTheirCausesInPriorityOrder :
    (∃ (s t : State) (e : DecodeReject), s.cmdValid = true ∧ s.done = false ∧ step s = .next t ∧
      decode s.cmd = .error e) ∧
    (∃ (s t : State) (i : Instr), s.cmdValid = true ∧ s.done = false ∧ step s = .next t ∧
      decode s.cmd = .ok i ∧ t.err = .calVerifyMismatch) :=
  ⟨⟨presented uninit 0x70010001#32, _, .reservedField, rfl, rfl, rfl, by decide⟩,
    ⟨presented (answers (w1 configured) [ok, bytes 0x00 0x02]) 0x40000000#32, _, .calibrate, rfl, rfl, rfl,
      by decide, by decide⟩⟩

theorem witness_StatusPacksTheStatusRegisters : ∃ s t : State, s.takesCommand = false ∧
    (∀ rest, s.hostActions ≠ .blockReset :: rest) ∧ step s = .next t ∧ s.cmdValid = true :=
  ⟨host (finished calibrated) [.withdraw], _, rfl, (fun _ => by simp [host]), rfl, rfl⟩

theorem witness_ErrorsDoNotAffectTheNextCommand : ∃ s : State, s.cmdValid = true ∧ s.done = false :=
  ⟨presented uninit 0xF0000000#32, by decide⟩

theorem witness_OtherCommandsIgnoreTheOperandPorts :
    ∃ (i : Instr) (s t : State), i ≠ .calDerive ∧ i ≠ .calibrate ∧ exec i s = .next t :=
  ⟨.rdCurrent, answers calibrated [bytes 0x03 0xE8], _, by decide, by decide, rfl⟩

theorem witness_UnspecifiedValuesNeverReachAnotherResult :
    ∃ s t s' : State, s.SameButUnspecified t ∧ step s = .next s' ∧ s.curLsb ≠ t.curLsb ∧ s.res ≠ t.res :=
  ⟨presented configured 0x50000001#32,
    { presented configured 0x50000001#32 with curLsb := 1#16, pwrLsb := 2#16, calVal := 3#16, res := 4#64 }, _,
    ⟨rfl, fun h => absurd h (by decide), fun h => absurd h (by decide)⟩, rfl, by decide, by decide⟩

/-- CALIBRATED as a CALIBRATE leaves it, with DEC_CURRENT presented. -/
def verified : State :=
  { presented calibrated 0x700003E8#32 with
    busLog := [⟨writeRequest 0x05#8 0x0200#16, ok⟩, ⟨readRequest 0x05#8, bytes 0x02 0x00⟩] }

theorem witness_EveryStepKeepsTheCacheInvariant :
    ∃ s t : State, s.Inv ∧ step s = .next t ∧ s.facade = .calibrated :=
  ⟨verified, _,
    ⟨fun _ => by decide,
      fun _ => ⟨[], ok, bytes 0x02 0x00, [], rfl, rfl, by decide, fun _ h => absurd h List.not_mem_nil⟩,
      fun h => absurd h (by decide)⟩,
    rfl, rfl⟩

theorem witness_EveryStepKeepsTheBusWithinTheMap :
    ∃ s t : State, s.BusLogOk ∧ s.busLog ≠ [] ∧ step s = .next t := by
  refine ⟨{ presented calibrated 0x900003E8#32 with busLog := [⟨readRequest 0x05#8, bytes 0x02 0x00⟩] }, _, ?_,
    List.cons_ne_nil _ _, rfl⟩
  intro tr h
  rw [List.mem_singleton.1 h]
  exact .inl ⟨0x05#8, by decide, rfl⟩

theorem witness_BringUpReachesCalibratedDecodes : ∃ r i : Word, r ≠ 0#32 ∧ i ≠ 0#32 :=
  ⟨100000#32, 3276700#32, by decide⟩

theorem witness_AssembledLinesAreLegalCommands :
    (∃ (m : Mnemonic) (xs : List Int) (a : Assembled), assemble m xs = some a ∧ m = .calibrate) ∧
    (∃ a b v m : Int, ((0 ≤ a ∧ a ≤ 7) ∧ (0 ≤ b ∧ b ≤ 7) ∧ (0 ≤ v ∧ v ≤ 7) ∧ (0 ≤ m ∧ m ≤ 7)) ∧ a = 7 ∧ m = 0) ∧
    (∃ a b v m : Int, ¬((0 ≤ a ∧ a ≤ 7) ∧ (0 ≤ b ∧ b ≤ 7) ∧ (0 ≤ v ∧ v ≤ 7) ∧ (0 ≤ m ∧ m ≤ 7)) ∧ m = 8) ∧
    ((∃ x : Int, (-32768 ≤ x ∧ x ≤ 65535) ∧ x = -32768) ∧ ∃ x : Int, ¬(-32768 ≤ x ∧ x ≤ 65535) ∧ x = 65536) ∧
    ((∃ x : Int, x ∈ [0, 1, 2, 3, 4, 5, 6, 7, 255] ∧ x = 255) ∧
      ∃ x : Int, x ∉ [0, 1, 2, 3, 4, 5, 6, 7, 255] ∧ x = 8) ∧
    (∃ r i : Int, ((0 ≤ r ∧ r < 2 ^ 32) ∧ (0 ≤ i ∧ i < 2 ^ 32)) ∧ r = 4294967295 ∧ i = 0) ∧
    (∃ r i : Int, ¬((0 ≤ r ∧ r < 2 ^ 32) ∧ (0 ≤ i ∧ i < 2 ^ 32)) ∧ r = 0 ∧ i = 4294967296) :=
  ⟨⟨.calibrate, [100000, 3276700], ⟨0x40000000#32, some (0x186A0#32, 0x31FF9C#32)⟩, by decide⟩,
    ⟨7, 0, 7, 0, by decide⟩, ⟨0, 0, 0, 8, by decide⟩, ⟨⟨-32768, by decide⟩, 65536, by decide⟩,
    ⟨⟨255, by decide⟩, 8, by decide⟩, ⟨4294967295, 0, by decide⟩, ⟨0, 4294967296, by decide⟩⟩

theorem witness_LinesOfTextAreReadAsTheirMnemonicAndNumbers :
    (∃ (blanks : List Char) (operands : List (List Char × Int)), blanks ≠ [] ∧ (∀ c ∈ blanks, c = ' ') ∧
      operands ≠ [] ∧ ∀ o ∈ operands, Spells o.1 o.2) ∧
    (∃ line : List Char, ';' ∉ line ∧ line ≠ []) ∧
    ∃ (line : String) (a : Assembled), assembleLine line = some a := by
  refine ⟨⟨[' ', ' '], [(['0', 'x', 'f', 'f'], 255), (['-', '7'], -7), (['0'], 0)], by decide, by simp,
    List.cons_ne_nil _ _, ?_⟩, ⟨['P', 'I', 'N', 'G'], by decide⟩, "RD_RAW 0xFF", ⟨0xD00000FF#32, none⟩, by decide +kernel⟩
  intro o ho
  simp only [List.mem_cons, List.not_mem_nil, or_false] at ho
  rcases ho with rfl | rfl | rfl
  · exact .hexadecimal 255
  · exact .negative 7
  · exact .decimal 0

end Sys2Proof.Tests
end

section
/-! PROOFS. The status registers and the output ports (10_state.md): how STATUS packs them, when a step changes
them, and how the end of a command stands in RES, RES_VALID, ERR and the flags. -/

namespace Sys2Proof.Proofs

open Sys2Proof.Machine

/-! ## The fields of STATUS (10_state.md R35) -/

theorem status_facadeField (s : State) : s.status.extractLsb' 0 2 = facadeCode s.facade := by
  ext i hi
  simp [State.status, show i < 16 by omega, show i < 7 by omega, show i < 6 by omega, show i < 3 by omega,
    show i ≤ 1 by omega]

theorem status_errField (s : State) : s.status.extractLsb' 3 3 = errCode s.err := by
  ext i hi
  simp [State.status, show 3 + i < 16 by omega, show 3 + i < 7 by omega, show 3 + i < 6 by omega,
    show ¬ 3 + i - 2 = 0 by omega, BitVec.getLsbD_of_ge (facadeCode s.facade) (3 + i) (by omega),
    BitVec.getLsbD_eq_getElem hi]

theorem status_zeroField (s : State) : s.status.extractLsb' 8 8 = 0#8 := by
  ext i hi
  simp [State.status, show ¬ 8 + i - 7 = 0 by omega, show ¬ 8 + i - 6 = 0 by omega, show ¬ 8 + i - 2 = 0 by omega,
    BitVec.getLsbD_of_ge (errCode s.err) (8 + i - 3) (by omega),
    BitVec.getLsbD_of_ge (facadeCode s.facade) (8 + i) (by omega)]

theorem status_resValidBit (s : State) : s.status.getLsbD 2 = s.resValid := by
  simp [State.status]

theorem status_calzBit (s : State) : s.status.getLsbD 6 = s.calz := by
  simp [State.status]

theorem status_calovfBit (s : State) : s.status.getLsbD 7 = s.calovf := by
  simp [State.status]

/-! ## Steps that take no command (10_state.md R34) -/

theorem settleDone_outputs (s : State) : s.settleDone.outputs = { s.outputs with done := s.settleDone.done } := rfl

/-- Presenting and withdrawing a command drive input ports alone. -/
theorem hostAct_outputs (s : State) {a : HostAction} (ha : a ≠ .blockReset) :
    (s.hostAct a).outputs = s.outputs := by
  cases a with
  | present cmd opa opb => rfl
  | withdraw => rfl
  | blockReset => exact absurd rfl ha

theorem hostTurn_outputs (s : State) (h : ∀ rest, s.hostActions ≠ .blockReset :: rest) :
    s.hostTurn.outputs = { s.outputs with done := s.hostTurn.done } := by
  unfold State.hostTurn
  split
  next => exact settleDone_outputs s
  next a rest hq =>
    have ha : a ≠ .blockReset := fun hb => h rest (hb ▸ hq)
    rw [settleDone_outputs, hostAct_outputs _ ha]
    rfl

/-- Settles O40: each field of STATUS by its own lemma, and the step without a command by the host's action. -/
theorem statusPacksTheStatusRegisters : Obligations.StatusPacksTheStatusRegisters := by
  intro s
  refine ⟨?_, status_resValidBit s, status_errField s, status_calzBit s, status_calovfBit s, status_zeroField s,
    rfl, rfl, rfl, rfl, rfl, rfl, fun _ _ _ _ => rfl, ?_⟩
  · rw [status_facadeField]
    cases s.facade <;> rfl
  · intro t ht hr hstep
    rw [step_of_host_turn ht] at hstep
    cases hstep
    exact hostTurn_outputs s hr

/-! ## RESET and PING by the answer of the bus (43_device_control.md R190, R191) -/

section
variable {s : State}

theorem exec_reset_fail (ha : writeOk (s.answer (writeRequest 0x00#8 resetWord)) = false) :
    exec .reset s =
      .next (((s.transact (writeRequest 0x00#8 resetWord)).setFacade .uninit).raise .transport) := by
  simp only [exec, execReset, offset_configuration, State.memWrite_eq, ha]

theorem exec_reset_ok (ha : writeOk (s.answer (writeRequest 0x00#8 resetWord)) = true) :
    exec .reset s =
      .next (((s.transact (writeRequest 0x00#8 resetWord)).setFacade .uninit).succeed (zext64 resetWord)) := by
  simp only [exec, execReset, offset_configuration, State.memWrite_eq, ha]

theorem exec_ping_fail (ha : readValue (s.answer (readRequest 0xFF#8)) = none) :
    exec .ping s = .next { (s.transact (readRequest 0xFF#8)).succeed 0#64 with err := .transport } := by
  simp only [exec, execPing, offset_manufacturerId, State.memRead_eq, ha]

theorem exec_ping_value {v : Half} (ha : readValue (s.answer (readRequest 0xFF#8)) = some v) :
    exec .ping s = .next ((s.transact (readRequest 0xFF#8)).succeed (pingResult v)) := by
  simp only [exec, execPing, offset_manufacturerId, State.memRead_eq, ha]

end

/-! ## A command started with other contents of RES and ERR -/

/-- `s` with RES and ERR left otherwise by the commands before. -/
def withOutcome (s : State) (x : Result) (e : ErrKind) : State := { s with res := x, err := e }

/-- A command that ended in `t` where RES held `r`, and in `t'` where it held `x`: either it set RES_VALID and
the next state is the same, or it left RES as it was and nothing else differs (10_state.md R28, R29). -/
inductive EndsAlike (r x : Result) (t : State) : State → Prop where
  | written (hv : t.resValid = true) : EndsAlike r x t t
  | kept (hv : t.resValid = false) (hr : t.res = r) : EndsAlike r x t { t with res := x }

section
variable (s : State) (x : Result) (e : ErrKind)

theorem succeed_endsAlike (v : Result) : EndsAlike s.res x (s.succeed v) ((withOutcome s x e).succeed v) :=
  .written rfl

theorem raise_endsAlike (k : ErrKind) : EndsAlike s.res x (s.raise k) ((withOutcome s x e).raise k) := .kept rfl rfl

theorem readResult_endsAlike (r : SensorReg) (f : Half → Result) :
    EndsAlike s.res x (s.readResult r f) ((withOutcome s x e).readResult r f) := by
  cases ha : readValue (s.answer (readRequest r.offset)) with
  | none =>
    rw [State.readResult_fail f ha, State.readResult_fail (s := withOutcome s x e) f ha]
    exact raise_endsAlike (s.transact _) x e .transport
  | some v =>
    rw [State.readResult_value f ha, State.readResult_value (s := withOutcome s x e) f ha]
    exact succeed_endsAlike (s.transact _) x e (f v)

theorem whenConfigured_endsAlike {t t' : State} (h : EndsAlike s.res x t t') :
    EndsAlike s.res x (s.whenConfigured t) ((withOutcome s x e).whenConfigured t') := by
  by_cases hf : s.facade = .uninit
  · rw [State.whenConfigured_refuses hf, State.whenConfigured_refuses (s := withOutcome s x e) hf]
    exact raise_endsAlike s x e .notConfigured
  · rwa [State.whenConfigured_passes hf, State.whenConfigured_passes (s := withOutcome s x e) hf]

theorem whenCalibrated_endsAlike {t t' : State} (h : EndsAlike s.res x t t') :
    EndsAlike s.res x (s.whenCalibrated t) ((withOutcome s x e).whenCalibrated t') := by
  by_cases hf : s.facade = .calibrated
  · rwa [State.whenCalibrated_passes hf, State.whenCalibrated_passes (s := withOutcome s x e) hf]
  · rw [State.whenCalibrated_refuses hf, State.whenCalibrated_refuses (s := withOutcome s x e) hf]
    exact raise_endsAlike s x e .notCalibrated

theorem applyConfig_endsAlike (w : Half) :
    EndsAlike s.res x (s.applyConfig w) ((withOutcome s x e).applyConfig w) := by
  cases ha : writeOk (s.answer (writeRequest 0x00#8 w)) with
  | false =>
    rw [State.applyConfig_fail ha, State.applyConfig_fail (s := withOutcome s x e) ha]
    exact raise_endsAlike (s.transact _) x e .transport
  | true =>
    rw [State.applyConfig_ok ha, State.applyConfig_ok (s := withOutcome s x e) ha]
    exact succeed_endsAlike ((s.transact _).setFacade _) x e _

theorem verifyCal_endsAlike (d : CalParams) :
    EndsAlike s.res x (s.verifyCal d) ((withOutcome s x e).verifyCal d) := by
  rcases State.verifyCal_cases (s := s) d with ⟨ha, he⟩ | ⟨v, ha, hv, he⟩ | ⟨ha, he⟩ <;> rw [he]
  · rw [State.verifyCal_fail (s := withOutcome s x e) ha]
    exact raise_endsAlike (s.transact _).invalidate x e .transport
  · rw [State.verifyCal_mismatch (s := withOutcome s x e) ha hv]
    exact raise_endsAlike (s.transact _).invalidate x e .calVerifyMismatch
  · rw [State.verifyCal_match (s := withOutcome s x e) ha]
    exact .written rfl

theorem writeCal_endsAlike (d : CalParams) :
    EndsAlike s.res x (s.writeCal d) ((withOutcome s x e).writeCal d) := by
  rcases State.writeCal_cases (s := s) d with ⟨ha, he⟩ | ⟨ha, he⟩ <;> rw [he]
  · rw [State.writeCal_fail (s := withOutcome s x e) ha]
    exact raise_endsAlike (s.transact _).invalidate x e .transport
  · rw [State.writeCal_ok (s := withOutcome s x e) ha]
    exact verifyCal_endsAlike (s.transact _) x e d

/-- The precondition of the calibration commands and its refusal. -/
theorem calOperandZero_endsAlike {t t' : State} (h : EndsAlike s.res x t t') :
    EndsAlike s.res x (if s.calOperandZero then s.raise .calPrecondition else t)
      (if (withOutcome s x e).calOperandZero then (withOutcome s x e).raise .calPrecondition else t') := by
  by_cases hz : s.calOperandZero = true
  · rw [if_pos hz, if_pos (show (withOutcome s x e).calOperandZero = true from hz)]
    exact raise_endsAlike s x e .calPrecondition
  · rwa [if_neg hz, if_neg (show ¬ (withOutcome s x e).calOperandZero = true from hz)]

theorem exec_reset_endsAlike :
    ∃ t t', exec .reset s = .next t ∧ exec .reset (withOutcome s x e) = .next t' ∧ EndsAlike s.res x t t' := by
  cases ha : writeOk (s.answer (writeRequest 0x00#8 resetWord)) with
  | false =>
    exact ⟨_, _, exec_reset_fail ha, exec_reset_fail (s := withOutcome s x e) ha,
      raise_endsAlike ((s.transact _).setFacade .uninit) x e .transport⟩
  | true =>
    exact ⟨_, _, exec_reset_ok ha, exec_reset_ok (s := withOutcome s x e) ha,
      succeed_endsAlike ((s.transact _).setFacade .uninit) x e _⟩

/-- PING sets RES_VALID on a failed read too (43_device_control.md R191). -/
theorem exec_ping_endsAlike :
    ∃ t t', exec .ping s = .next t ∧ exec .ping (withOutcome s x e) = .next t' ∧ EndsAlike s.res x t t' := by
  cases ha : readValue (s.answer (readRequest 0xFF#8)) with
  | none => exact ⟨_, _, exec_ping_fail ha, exec_ping_fail (s := withOutcome s x e) ha, .written rfl⟩
  | some v =>
    exact ⟨_, _, exec_ping_value ha, exec_ping_value (s := withOutcome s x e) ha,
      succeed_endsAlike (s.transact _) x e (pingResult v)⟩

/-- Every command ends alike whatever RES and ERR held before. -/
theorem exec_endsAlike (i : Instr) :
    ∃ t t', exec i s = .next t ∧ exec i (withOutcome s x e) = .next t' ∧ EndsAlike s.res x t t' := by
  cases i with
  | cfgPack a b v m => exact ⟨_, _, rfl, rfl, succeed_endsAlike s x e _⟩
  | cfgApply a b v m => exact ⟨_, _, rfl, rfl, applyConfig_endsAlike s x e _⟩
  | calDerive =>
    exact ⟨_, _, rfl, rfl, calOperandZero_endsAlike s x e
      (succeed_endsAlike (s.setFlags s.derived.z s.derived.ovf) x e _)⟩
  | calibrate =>
    exact ⟨_, _, rfl, rfl, whenConfigured_endsAlike s x e <| calOperandZero_endsAlike s x e <|
      writeCal_endsAlike (s.setFlags s.derived.z s.derived.ovf) x e s.derived⟩
  | decBus raw => exact ⟨_, _, rfl, rfl, succeed_endsAlike s x e _⟩
  | decShunt raw => exact ⟨_, _, rfl, rfl, succeed_endsAlike s x e _⟩
  | decCurrent raw => exact ⟨_, _, rfl, rfl, whenCalibrated_endsAlike s x e (succeed_endsAlike s x e _)⟩
  | decPower raw => exact ⟨_, _, rfl, rfl, whenCalibrated_endsAlike s x e (succeed_endsAlike s x e _)⟩
  | rdBus => exact ⟨_, _, rfl, rfl, whenConfigured_endsAlike s x e (readResult_endsAlike s x e _ _)⟩
  | rdShunt => exact ⟨_, _, rfl, rfl, whenConfigured_endsAlike s x e (readResult_endsAlike s x e _ _)⟩
  | rdCurrent => exact ⟨_, _, rfl, rfl, whenCalibrated_endsAlike s x e (readResult_endsAlike s x e _ _)⟩
  | rdPower => exact ⟨_, _, rfl, rfl, whenCalibrated_endsAlike s x e (readResult_endsAlike s x e _ _)⟩
  | rdRaw off =>
    refine ⟨_, _, rfl, rfl, ?_⟩
    cases sensorRegAt off with
    | none => exact raise_endsAlike s x e .illegalCmd
    | some r => exact readResult_endsAlike s x e r zext64
  | reset => exact exec_reset_endsAlike s x e
  | ping => exact exec_ping_endsAlike s x e

end

/-- The same, for a command known to have ended. -/
theorem endsAlike_of_exec {i : Instr} {s t : State} (h : exec i s = .next t) (x : Result) (e : ErrKind) :
    ∃ t', exec i (withOutcome s x e) = .next t' ∧ EndsAlike s.res x t t' := by
  obtain ⟨u, u', hu, hu', ha⟩ := exec_endsAlike s x e i
  rw [hu] at h
  cases h
  exact ⟨u', hu', ha⟩

theorem EndsAlike.err_eq {r x : Result} {t t' : State} (h : EndsAlike r x t t') : t'.err = t.err := by
  cases h <;> rfl

/-- Outside PING an error and a result exclude each other. -/
theorem ends_err_iff_resValid {i : Instr} {s t : State} (h : Ends i s t) (hp : i ≠ .ping) :
    t.err = .none ↔ t.resValid = true := by
  cases h with
  | pingFail hi => exact absurd hi hp
  | _ => simp

theorem errCode_ne_seven (e : ErrKind) : errCode e ≠ 7#3 := by
  cases e <;> decide

/-- Settles O41: ERR ends alike whatever it held, and every ending but those of PING pairs it with RES_VALID. -/
theorem errHoldsTheOutcomeOfTheLastCommand : Obligations.ErrHoldsTheOutcomeOfTheLastCommand := by
  refine ⟨⟨rfl, rfl, rfl, rfl, rfl, rfl, rfl⟩, errCode_ne_seven, fun i s t e h => ⟨?_, ?_⟩⟩
  · obtain ⟨t', ht', ha⟩ := endsAlike_of_exec h s.res e
    exact ⟨t', ht', ha.err_eq⟩
  · exact ends_err_iff_resValid (ends_of_exec h)

/-- Settles O42: the two ways to end alike are the two values of RES_VALID. -/
theorem resValidSaysWhetherResIsWritten : Obligations.ResValidSaysWhetherResIsWritten := by
  intro i s t x h
  obtain ⟨t', ht', ha⟩ := endsAlike_of_exec h x s.err
  cases ha with
  | written hv => exact ⟨fun _ => ht', fun hn => absurd (hv.symm.trans hn) nofun⟩
  | kept hv hr => exact ⟨fun hy => absurd (hv.symm.trans hy) nofun, fun _ => ⟨hr, ht'⟩⟩

/-! ## The flags (10_state.md R30) -/

/-- `i` runs the derivation from `s`: its gate and its precondition hold (41_calibration.md R128, R129). -/
def Derives (i : Instr) (s : State) : Prop :=
  s.opa ≠ 0#32 ∧ s.opb ≠ 0#32 ∧ (i = .calDerive ∨ i = .calibrate ∧ s.facade ≠ .uninit)

theorem not_derives_iff {i : Instr} {s : State} :
    ¬ Derives i s ↔
      s.opa = 0#32 ∨ s.opb = 0#32 ∨ (i ≠ .calDerive ∧ (i ≠ .calibrate ∨ s.facade = .uninit)) := by
  simp only [Derives, not_and_or, not_or, not_not, ne_eq]

theorem not_derives_of_ne {i : Instr} {s : State} (hd : i ≠ .calDerive) (hc : i ≠ .calibrate) : ¬ Derives i s :=
  not_derives_iff.2 (.inr (.inr ⟨hd, .inl hc⟩))

/-- A command whose one transaction is a read is no calibration command. -/
theorem not_derives_of_read {i : Instr} {s : State} {off : Byte} (hr : requestsOf s i = [readRequest off]) :
    ¬ Derives i s := by
  apply not_derives_of_ne
  · rintro rfl
    simp [requestsOf] at hr
  · rintro rfl
    simp [requestsOf] at hr

/-- Every ending with the derivation leaves its flags; every other leaves the flags as they were. -/
theorem flags_of_ends {i : Instr} {s t : State} (h : Ends i s t) :
    (Derives i s ∧ t.calz = s.derived.z ∧ t.calovf = s.derived.ovf) ∨
    (¬ Derives i s ∧ t.calz = s.calz ∧ t.calovf = s.calovf) := by
  cases h with
  | pure v hr hd => exact .inr ⟨not_derives_of_ne hd (by rintro rfl; simp [requestsOf] at hr), rfl, rfl⟩
  | notConfigured hn hf =>
    have hi : i ≠ .calDerive := by rintro rfl; cases hn
    exact .inr ⟨not_derives_iff.2 (.inr (.inr ⟨hi, .inr hf⟩)), rfl, rfl⟩
  | notCalibrated hn =>
    exact .inr ⟨not_derives_of_ne (by rintro rfl; cases hn) (by rintro rfl; cases hn), rfl, rfl⟩
  | illegal hw =>
    exact .inr ⟨not_derives_of_ne (by rintro rfl; cases hw) (by rintro rfl; cases hw), rfl, rfl⟩
  | calPrecondition _ hz => exact .inr ⟨fun ⟨ha, hb, _⟩ => hz.elim ha hb, rfl, rfl⟩
  | derived v hi ha hb => exact .inl ⟨⟨ha, hb, .inl hi⟩, rfl, rfl⟩
  | readFail off hr => exact .inr ⟨not_derives_of_read hr, rfl, rfl⟩
  | readValue off v x hr => exact .inr ⟨not_derives_of_read hr, rfl, rfl⟩
  | pingFail hi | pingValue _ _ hi | applyFail _ _ _ _ hi | applyOk _ _ _ _ _ hi | resetFail hi | resetOk _ hi =>
    exact .inr ⟨not_derives_of_ne (hi ▸ nofun) (hi ▸ nofun), rfl, rfl⟩
  | calWriteFail d hd hi hf ha hb =>
    subst hd
    exact .inl ⟨⟨ha, hb, .inr ⟨hi, hf⟩⟩, rfl, rfl⟩
  | calReadFail d u hd hu hi hf ha hb | calMismatch d u _ hd hu hi hf ha hb | calCommit d u _ hd hu hi hf ha hb =>
    subst hd hu
    exact .inl ⟨⟨ha, hb, .inr ⟨hi, hf⟩⟩, rfl, rfl⟩

/-- What the derived flags say (41_calibration.md R125, R126). -/
theorem derived_z_iff (s : State) : s.derived.z = true ↔ (deriveCal s.opa.toNat s.opb.toNat).c = 0#16 := by
  rw [State.derived_eq, deriveCal_z, calzFlag_iff]

theorem derived_ovf_iff (s : State) :
    s.derived.ovf = true ↔ 0xFFFF < calFullOf s.opa.toNat (currentLsbOf s.opb.toNat) := by
  rw [State.derived_eq, deriveCal_ovf, calovfFlag_iff]

/-- Settles O43: the two clauses are the two cases of `flags_of_ends`. -/
theorem calibrationFlagsAreWrittenOnlyByADerivation : Obligations.CalibrationFlagsAreWrittenOnlyByADerivation := by
  intro i s t h
  rcases flags_of_ends (ends_of_exec h) with ⟨hd, hz, ho⟩ | ⟨hd, hz, ho⟩
  · refine ⟨fun _ _ _ => ⟨hz ▸ derived_z_iff s, ho ▸ derived_ovf_iff s⟩, fun hn => ?_⟩
    exact absurd hd (not_derives_iff.2 hn)
  · exact ⟨fun ha hb hi => absurd ⟨ha, hb, hi⟩ hd, fun _ => ⟨hz, ho⟩⟩

end Sys2Proof.Proofs
end

section
/-! PROOFS. The bus and the calibration cache (20_memory.md): the bytes of an access, the transactions a command
makes, and what makes the cache valid and invalid. -/

namespace Sys2Proof.Proofs

open Sys2Proof.Machine

/-! ## The bytes of an access (20_memory.md R53, R54) -/

/-- Two bytes fit in a register, so their value is not cut. -/
theorem bytesValue_toNat (b0 b1 : Byte) : (bytesValue b0 b1).toNat = b0.toNat * 256 + b1.toNat := by
  have h0 := b0.isLt
  have h1 := b1.isLt
  rw [bytesValue, BitVec.toNat_ofNat, Nat.mod_eq_of_lt (by omega)]

theorem memRead_value_of_pair {s : State} {off b0 b1 : Byte} (h : s.answer (readRequest off) = .transfer 1 [b0, b1]) :
    (s.memRead off).1 = some (bytesValue b0 b1) := by
  rw [State.memRead_fst, h, readValue_pair le_rfl]

/-- Settles O11: both accesses are `State.transact` of their request, and `bytesValue` loses no bit. -/
theorem accessesAreOneTransactionOfTheirBytes : Obligations.AccessesAreOneTransactionOfTheirBytes :=
  ⟨fun _ _ _ => rfl, fun _ _ => rfl,
    fun _ _ b0 b1 h => ⟨bytesValue b0 b1, memRead_value_of_pair h, bytesValue_toNat b0 b1⟩⟩

/-! ## The transactions of a command (20_memory.md R57) -/

/-- From `s` to `t` the block made the transactions of `qs`, in this order, each with one answer. -/
def Makes (qs : List BusRequest) (s t : State) : Prop :=
  ∃ new, t.busLog = s.busLog ++ new ∧ new.map BusTransaction.request = qs ∧
    t.busScript = s.busScript.drop new.length

theorem makes_nil {s t : State} (hl : t.busLog = s.busLog) (hs : t.busScript = s.busScript) : Makes [] s t :=
  ⟨[], by simp [hl], rfl, by simp [hs]⟩

/-- One transaction more, and whatever else is done that leaves the bus alone. -/
theorem Makes.snoc {qs : List BusRequest} {s t u : State} (h : Makes qs s t) (q : BusRequest)
    (hl : u.busLog = (t.transact q).busLog) (hs : u.busScript = (t.transact q).busScript) :
    Makes (qs ++ [q]) s u := by
  obtain ⟨new, hlog, hreq, hscript⟩ := h
  refine ⟨new ++ [⟨q, t.answer q⟩], ?_, ?_, ?_⟩
  · rw [hl, State.transact_busLog, hlog, List.append_assoc]
  · rw [List.map_append, hreq]
    rfl
  · rw [hs, State.transact_busScript, hscript, List.tail_drop, List.length_append, List.length_singleton]

theorem makes_one {s t : State} (q : BusRequest) (hl : t.busLog = (s.transact q).busLog)
    (hs : t.busScript = (s.transact q).busScript) : Makes [q] s t :=
  (makes_nil rfl rfl).snoc q hl hs

/-- The requests made from `s` to `t` are a first part of those the rule of `i` lists, and all of them when the
command ends without an error. -/
def MakesAsListed (i : Instr) (s t : State) : Prop :=
  ∃ qs, Makes qs s t ∧ qs <+: requestsOf s i ∧ (t.err = .none → qs = requestsOf s i)

theorem Makes.whole {i : Instr} {qs : List BusRequest} {s t : State} (h : Makes qs s t)
    (hq : requestsOf s i = qs) : MakesAsListed i s t :=
  ⟨qs, h, hq ▸ List.prefix_rfl, fun _ => hq.symm⟩

theorem Makes.part {i : Instr} {qs : List BusRequest} {s t : State} (h : Makes qs s t)
    (hq : qs <+: requestsOf s i) (he : t.err ≠ .none) : MakesAsListed i s t :=
  ⟨qs, h, hq, fun hn => absurd hn he⟩

/-- The list of CALIBRATE, in terms of what it derives (41_calibration.md R129). -/
theorem requestsOf_calibrate (s : State) :
    requestsOf s .calibrate = [writeRequest 0x05#8 s.derived.c, readRequest 0x05#8] := rfl

/-- A command that ends before its first transaction raises an error. -/
theorem makesAsListed_of_raise (i : Instr) (s : State) {e : ErrKind} (he : e ≠ .none) :
    MakesAsListed i s (s.raise e) :=
  Makes.part (makes_nil rfl rfl) List.nil_prefix he

theorem makesAsListed_of_ends {i : Instr} {s t : State} (h : Ends i s t) : MakesAsListed i s t := by
  cases h with
  | pure v hr => exact Makes.whole (makes_nil rfl rfl) hr
  | derived v hi => exact Makes.whole (makes_nil rfl rfl) (hi ▸ rfl)
  | notConfigured | notCalibrated | illegal | calPrecondition => exact makesAsListed_of_raise i s nofun
  | readFail off hr | readValue off _ _ hr => exact Makes.whole (makes_one _ rfl rfl) hr
  | pingFail hi | pingValue _ _ hi | applyFail _ _ _ _ hi | applyOk _ _ _ _ _ hi | resetFail hi | resetOk _ hi =>
    subst hi
    exact Makes.whole (makes_one _ rfl rfl) rfl
  | calWriteFail d hd hi =>
    subst hd hi
    exact Makes.part (makes_one _ rfl rfl) (requestsOf_calibrate s ▸ ⟨[readRequest 0x05#8], rfl⟩) nofun
  | calReadFail d u hd hu hi | calMismatch d u _ hd hu hi | calCommit d u _ hd hu hi =>
    subst hd hi
    have hw : Makes [writeRequest 0x05#8 s.derived.c] s u := hu ▸ makes_one _ rfl rfl
    exact Makes.whole (hw.snoc (readRequest 0x05#8) rfl rfl) (requestsOf_calibrate s)

/-- Settles O13: an access is one `State.transact`, and every ending of a command makes its listed transactions. -/
theorem commandsMakeOnlyTheTransactionsTheirRulesList :
    Obligations.CommandsMakeOnlyTheTransactionsTheirRulesList := by
  refine ⟨fun s off v => by simp, fun i s t _ h => ?_⟩
  obtain ⟨_, ⟨new, hlog, rfl, hscript⟩, hpart, hall⟩ := makesAsListed_of_ends (ends_of_exec h)
  exact ⟨new, hlog, hpart, hall, hscript⟩

/-! ## The validity of the cache (20_memory.md R66) -/

/-- The endings that invalidate the cache (41_calibration.md R129, R132; 43_device_control.md R190). -/
def Invalidates (i : Instr) (t : State) : Prop :=
  i = .reset ∨ (i = .calibrate ∧ (t.err = .transport ∨ t.err = .calVerifyMismatch))

theorem not_invalidates_of_ne {i : Instr} {t : State} (hr : i ≠ .reset) (hc : i ≠ .calibrate) :
    ¬ Invalidates i t :=
  not_or.2 ⟨hr, fun h => hc h.1⟩

/-- Outside RESET only these two errors invalidate. -/
theorem not_invalidates_of_err {i : Instr} {t : State} (hr : i ≠ .reset) (ht : t.err ≠ .transport)
    (hv : t.err ≠ .calVerifyMismatch) : ¬ Invalidates i t :=
  not_or.2 ⟨hr, fun h => h.2.elim ht hv⟩

theorem not_invalidates_of_read {i : Instr} {s t : State} {off : Byte} (hr : requestsOf s i = [readRequest off]) :
    ¬ Invalidates i t := by
  apply not_invalidates_of_ne
  · rintro rfl
    simp [requestsOf, writeRequest, readRequest] at hr
  · rintro rfl
    simp [requestsOf] at hr

/-- The three cached values of `t` are those of `s`. -/
def KeepsCache (s t : State) : Prop := t.curLsb = s.curLsb ∧ t.pwrLsb = s.pwrLsb ∧ t.calVal = s.calVal

/-- What a command `i` that ended in `t` did to the validity of the cache. -/
inductive ValidityChange (i : Instr) (s t : State) : Prop where
  | kept (hf : t.facade = .calibrated ↔ s.facade = .calibrated) (hc : KeepsCache s t) (hn : ¬ Invalidates i t)
  | dropped (hf : t.facade ≠ .calibrated) (hc : KeepsCache s t) (hn : Invalidates i t)
  | committed (hf : t.facade = .calibrated) (hi : i = .calibrate) (he : t.err = .none)

/-- CFG_APPLY leaves a valid cache valid and validates none (40_config_packer.md R102). -/
theorem facadeConfigured_calibrated_iff (f : Facade) : facadeConfigured f = .calibrated ↔ f = .calibrated := by
  cases f <;> simp [facadeConfigured]

theorem validityChange_of_ends {i : Instr} {s t : State} (h : Ends i s t) : ValidityChange i s t := by
  have unchanged : KeepsCache s s := ⟨rfl, rfl, rfl⟩
  cases h with
  | pure v hr =>
    refine .kept .rfl unchanged (not_invalidates_of_ne ?_ ?_)
    all_goals
      rintro rfl
      simp [requestsOf] at hr
  | notConfigured h | notCalibrated h | illegal h =>
    exact .kept .rfl unchanged (not_invalidates_of_err (by rintro rfl; cases h) nofun nofun)
  | calPrecondition hi =>
    have hr : i ≠ .reset := by rintro rfl; simp at hi
    exact .kept .rfl unchanged (not_invalidates_of_err hr nofun nofun)
  | readFail off hr | readValue off _ _ hr => exact .kept .rfl unchanged (not_invalidates_of_read hr)
  | derived _ hi | pingFail hi | pingValue _ _ hi | applyFail _ _ _ _ hi =>
    exact .kept .rfl unchanged (not_invalidates_of_ne (hi ▸ nofun) (hi ▸ nofun))
  | applyOk _ _ _ _ _ hi =>
    exact .kept (facadeConfigured_calibrated_iff s.facade) unchanged
      (not_invalidates_of_ne (hi ▸ nofun) (hi ▸ nofun))
  | resetFail hi | resetOk _ hi => exact .dropped nofun unchanged (.inl hi)
  | calWriteFail d hd hi => exact .dropped nofun unchanged (.inr ⟨hi, .inl rfl⟩)
  | calReadFail d u hd hu hi =>
    subst hu
    exact .dropped nofun unchanged (.inr ⟨hi, .inl rfl⟩)
  | calMismatch d u v hd hu hi =>
    subst hu
    exact .dropped nofun unchanged (.inr ⟨hi, .inr rfl⟩)
  | calCommit d u x hd hu hi => exact .committed rfl hi rfl

/-- Settles O45: the three clauses hold of each of the three things a command can do to the cache. -/
theorem cacheValidityChangesOnlyAsStated : Obligations.CacheValidityChangesOnlyAsStated := by
  intro i s t h
  cases validityChange_of_ends (ends_of_exec h) with
  | kept hf hc hn =>
    exact ⟨fun hs ht => absurd (hf.1 ht) hs,
      fun hs => ⟨fun ht => absurd (hf.2 hs) ht, fun hi => absurd hi hn⟩, fun _ => hc⟩
  | dropped hf hc hn => exact ⟨fun _ ht => absurd ht hf, fun _ => ⟨fun _ => hn, fun _ => hf⟩, fun _ => hc⟩
  | committed hf hi he =>
    have hn : ¬ Invalidates i t := not_invalidates_of_err (hi ▸ nofun) (he ▸ nofun) (he ▸ nofun)
    exact ⟨fun _ _ => ⟨hi, he⟩, fun _ => ⟨fun ht => absurd hf ht, fun hx => absurd hx hn⟩,
      fun ht => absurd hf ht⟩

end Sys2Proof.Proofs
end

section
/-! PROOFS. The encoding (30_encoding.md): the formats of a command word, its match and mask, which words are legal
and which are not, and the pseudo-instructions. -/

namespace Sys2Proof.Proofs

open Sys2Proof.Machine

/-! ## Match and mask: what a mask that keeps the bits from n up says of a word -/

theorem getLsbD_of_field_eq {w : Word} {start len : Nat} {v : BitVec len} (h : w.extractLsb' start len = v) {i : Nat}
    (h1 : start ≤ i) (h2 : i < start + len) : w.getLsbD i = v.getLsbD (i - start) := by
  rw [← h, BitVec.getLsbD_extractLsb', Nat.add_sub_cancel' h1]
  simp [show i - start < len by omega]

section
variable {mask : Word} {n : Nat} (hmask : ∀ i < 32, mask.getLsbD i = decide (n ≤ i))
include hmask

/-- A field that lies under the mask is not changed by it. -/
theorem extractLsb'_and_mask (w : Word) {start len : Nat} (h1 : n ≤ start) (h2 : start + len ≤ 32) :
    (w &&& mask).extractLsb' start len = w.extractLsb' start len := by
  ext i hi
  simp [hmask (start + i) (by omega), show n ≤ start + i by omega]

theorem and_mask_eq_iff (w : Word) (op : BitVec 4) (hn : n ≤ 16) :
    w &&& mask = commandWord op 0#16 ↔
      opField w = op ∧ rsvField w = 0#12 ∧ w.extractLsb' n (16 - n) = 0#(16 - n) := by
  constructor
  · intro h
    refine ⟨?_, ?_, ?_⟩
    · rw [opField, ← extractLsb'_and_mask hmask w (by omega) (by omega), h]
      exact opField_commandWord op 0#16
    · rw [rsvField, ← extractLsb'_and_mask hmask w (by omega) (by omega), h]
      exact rsvField_commandWord op 0#16
    · rw [← extractLsb'_and_mask hmask w le_rfl (by omega), h, extractLsb'_commandWord op 0#16 _ _ (by omega)]
      simp
  · rintro ⟨hop, hrsv, hzero⟩
    apply BitVec.eq_of_getLsbD_eq
    intro i hi
    rw [BitVec.getLsbD_and, hmask i hi, getLsbD_commandWord op 0#16 i hi]
    by_cases hni : n ≤ i
    · by_cases h16 : i < 16
      · simp [getLsbD_of_field_eq hzero hni (by omega), show ¬ 28 ≤ i by omega]
      · by_cases h28 : i < 28
        · simp [getLsbD_of_field_eq (start := 16) hrsv (i := i) (by omega) (by omega), hni, show ¬ 28 ≤ i by omega]
        · simp [getLsbD_of_field_eq (start := 28) hop (i := i) (by omega) (by omega), hni, show 28 ≤ i by omega]
    · simp [hni, show ¬ 28 ≤ i by omega]
end

/-! ## The four formats of a word (30_encoding.md R71) -/

/-- The formats of 30_encoding.md R71 as the decoder tells them apart: F-CAL and F-NONE are both `bare`, since
neither word carries an operand. -/
inductive WordFormat where
  | cfg | raw | reg | bare
  deriving DecidableEq

/-- The format of the command that OP selects (30_encoding.md R72). -/
def formatOf (op : BitVec 4) : WordFormat :=
  if op ∈ [0x1#4, 0x2#4] then .cfg
  else if op ∈ [0x5#4, 0x6#4, 0x7#4, 0x8#4] then .raw
  else if op = 0xD#4 then .reg
  else .bare

/-- The mask column of the opcode map, by format (30_encoding.md R72). -/
def WordFormat.mask : WordFormat → Word
  | .cfg => 0xFFFFF000#32
  | .raw => 0xFFFF0000#32
  | .reg => 0xFFFFFF00#32
  | .bare => 0xFFFFFFFF#32

/-- The Z field of the format is 0; F-RAW has none (30_encoding.md R71, R73). -/
def WordFormat.ZeroFieldOk (w : Word) : WordFormat → Prop
  | .cfg => z4Field w = 0#4
  | .raw => True
  | .reg => z8Field w = 0#8
  | .bare => immField w = 0#16

/-- The match and mask of the row of OP in the opcode map (30_encoding.md R72). -/
def rowOf (op : BitVec 4) : Word × Word := (commandWord op 0#16, (formatOf op).mask)

/-- A word stands in a row exactly when it has the row's OP and its fields that must be 0 are 0. -/
theorem and_rowOf_eq_iff (w : Word) (op : BitVec 4) : w &&& (rowOf op).2 = (rowOf op).1 ↔
    opField w = op ∧ rsvField w = 0#12 ∧ (formatOf op).ZeroFieldOk w := by
  rw [rowOf]
  cases formatOf op with
  | cfg => exact and_mask_eq_iff (mask := WordFormat.cfg.mask) (n := 12) (by decide) w op (by omega)
  | raw =>
    refine (and_mask_eq_iff (mask := WordFormat.raw.mask) (n := 16) (by decide) w op le_rfl).trans ?_
    simp [WordFormat.ZeroFieldOk]
  | reg => exact and_mask_eq_iff (mask := WordFormat.reg.mask) (n := 8) (by decide) w op (by omega)
  | bare => exact and_mask_eq_iff (mask := WordFormat.bare.mask) (n := 0) (by decide) w op (by omega)

/-! ## What the decoder answers, by format -/

theorem decodeCfg_eq_ok_iff {mk : Code → Code → Code → Code → Instr} {w : Word} {i : Instr} :
    decodeCfg mk w = .ok i ↔ z4Field w = 0#4 ∧ mk (avgField w) (vbusctField w) (vshctField w) (modeField w) = i := by
  by_cases h : z4Field w = 0#4 <;> simp [decodeCfg, h]

theorem decodeRaw_eq_ok_iff {mk : Half → Instr} {w : Word} {i : Instr} :
    decodeRaw mk w = .ok i ↔ mk (immField w) = i := by
  simp [decodeRaw]

theorem decodeReg_eq_ok_iff {mk : Byte → Instr} {w : Word} {i : Instr} :
    decodeReg mk w = .ok i ↔ z8Field w = 0#8 ∧ offsetInMap (offField w) = true ∧ mk (offField w) = i := by
  by_cases hz : z8Field w = 0#8 <;> by_cases ho : offsetInMap (offField w) = true <;> simp [decodeReg, hz, ho]

theorem decodeBare_eq_ok_iff {j : Instr} {w : Word} {i : Instr} :
    decodeBare j w = .ok i ↔ immField w = 0#16 ∧ j = i := by
  by_cases h : immField w = 0#16 <;> simp [decodeBare, h]

/-- The decoder of a format, for an OP in whose row of the opcode map the format's commands stand. -/
inductive DecodesAs (op : BitVec 4) (w : Word) : WordFormat → Except DecodeReject Instr → Prop where
  | cfg {mk : Code → Code → Code → Code → Instr} (hrow : ∀ a b v m, opcodeRow (mk a b v m) = rowOf op) :
      DecodesAs op w .cfg (decodeCfg mk w)
  | raw {mk : Half → Instr} (hrow : ∀ x, opcodeRow (mk x) = rowOf op) : DecodesAs op w .raw (decodeRaw mk w)
  | reg (hop : op = 0xD#4) : DecodesAs op w .reg (decodeReg .rdRaw w)
  | bare {i : Instr} (hrow : opcodeRow i = rowOf op) : DecodesAs op w .bare (decodeBare i w)

theorem decodesAs_decodeOp {w : Word} (h : opField w ≠ 0#4) :
    DecodesAs (opField w) w (formatOf (opField w)) (decodeOp w) := by
  unfold decodeOp
  generalize opField w = op at h ⊢
  split
  · exact .cfg fun _ _ _ _ => rfl
  · exact .cfg fun _ _ _ _ => rfl
  · exact .bare rfl
  · exact .bare rfl
  · exact .raw fun _ => rfl
  · exact .raw fun _ => rfl
  · exact .raw fun _ => rfl
  · exact .raw fun _ => rfl
  · exact .bare rfl
  · exact .bare rfl
  · exact .bare rfl
  · exact .bare rfl
  · exact .reg rfl
  · exact .bare rfl
  · exact .bare rfl
  · exfalso
    revert op
    decide

theorem decode_of_op_zero {w : Word} (h : opField w = 0#4) : decode w = .error .reservedOp := if_pos h

theorem decode_of_rsv_ne_zero {w : Word} (hop : opField w ≠ 0#4) (h : rsvField w ≠ 0#12) :
    decode w = .error .reservedField := by
  rw [decode, if_neg hop, if_neg h]

theorem decode_eq_decodeOp {w : Word} (hop : opField w ≠ 0#4) (h : rsvField w = 0#12) : decode w = decodeOp w := by
  rw [decode, if_neg hop, if_pos h]

/-- The offset condition of R73 is met: it is asked of RD_RAW alone. -/
def OffsetOk (op : BitVec 4) (w : Word) : Prop := op = 0xD#4 → offsetInMap (offField w) = true

theorem formatOf_reg_iff : ∀ op : BitVec 4, formatOf op = .reg ↔ op = 0xD#4 := by decide

theorem DecodesAs.exists_ok_iff {op : BitVec 4} {w : Word} {r : Except DecodeReject Instr}
    (h : DecodesAs op w (formatOf op) r) :
    (∃ i, r = .ok i) ↔ (formatOf op).ZeroFieldOk w ∧ OffsetOk op w := by
  have hreg := formatOf_reg_iff op
  generalize formatOf op = f at h hreg
  cases h with
  | cfg _ => simp [decodeCfg_eq_ok_iff, WordFormat.ZeroFieldOk, OffsetOk, ← hreg]
  | raw _ => simp [decodeRaw_eq_ok_iff, WordFormat.ZeroFieldOk, OffsetOk, ← hreg]
  | reg hop => simp [decodeReg_eq_ok_iff, WordFormat.ZeroFieldOk, OffsetOk, hop]
  | bare _ => simp [decodeBare_eq_ok_iff, WordFormat.ZeroFieldOk, OffsetOk, ← hreg]

theorem DecodesAs.opcodeRow_eq {op : BitVec 4} {w : Word} {f : WordFormat} {i : Instr}
    (h : DecodesAs op w f (.ok i)) : opcodeRow i = rowOf op := by
  generalize hr : Except.ok i = r at h
  cases h with
  | cfg hrow =>
    obtain ⟨-, rfl⟩ := decodeCfg_eq_ok_iff.1 hr.symm
    exact hrow _ _ _ _
  | raw hrow =>
    obtain rfl := decodeRaw_eq_ok_iff.1 hr.symm
    exact hrow _
  | reg hop =>
    obtain ⟨-, -, rfl⟩ := decodeReg_eq_ok_iff.1 hr.symm
    exact hop ▸ rfl
  | bare hrow =>
    obtain ⟨-, rfl⟩ := decodeBare_eq_ok_iff.1 hr.symm
    exact hrow

/-! ## The legal words -/

/-- Which words decode (30_encoding.md R73). -/
theorem exists_decode_ok_iff (w : Word) : (∃ i, decode w = .ok i) ↔
    opField w ≠ 0#4 ∧ rsvField w = 0#12 ∧ (formatOf (opField w)).ZeroFieldOk w ∧ OffsetOk (opField w) w := by
  by_cases hop : opField w = 0#4
  · simp [decode_of_op_zero hop, hop]
  · by_cases hrsv : rsvField w = 0#12
    · rw [decode_eq_decodeOp hop hrsv, (decodesAs_decodeOp hop).exists_ok_iff]
      simp [hop, hrsv]
    · simp [decode_of_rsv_ne_zero hop hrsv, hrsv]

/-- A decoded command stands in the row of the word's OP. -/
theorem opcodeRow_of_decode {w : Word} {i : Instr} (h : decode w = .ok i) : opcodeRow i = rowOf (opField w) := by
  obtain ⟨hop, hrsv, -, -⟩ := (exists_decode_ok_iff w).1 ⟨i, h⟩
  have hd := decodesAs_decodeOp hop
  rw [← decode_eq_decodeOp hop hrsv, h] at hd
  exact hd.opcodeRow_eq

theorem decode_matches_opcodeRow {w : Word} {i : Instr} (h : decode w = .ok i) :
    w &&& (opcodeRow i).2 = (opcodeRow i).1 := by
  obtain ⟨-, hrsv, hzero, -⟩ := (exists_decode_ok_iff w).1 ⟨i, h⟩
  rw [opcodeRow_of_decode h]
  exact (and_rowOf_eq_iff w _).2 ⟨rfl, hrsv, hzero⟩

/-- Every OP but 0, in the order of the opcode map (30_encoding.md R72, R74). -/
def commandOps : List (BitVec 4) :=
  [0x1#4, 0x2#4, 0x3#4, 0x4#4, 0x5#4, 0x6#4, 0x7#4, 0x8#4, 0x9#4, 0xA#4, 0xB#4, 0xC#4, 0xD#4, 0xE#4, 0xF#4]

/-- The match and mask columns of the opcode map, in its order (30_encoding.md R72). -/
def opcodeMap : List (Word × Word) :=
  [(0x10000000#32, 0xFFFFF000#32), (0x20000000#32, 0xFFFFF000#32), (0x30000000#32, 0xFFFFFFFF#32),
   (0x40000000#32, 0xFFFFFFFF#32), (0x50000000#32, 0xFFFF0000#32), (0x60000000#32, 0xFFFF0000#32),
   (0x70000000#32, 0xFFFF0000#32), (0x80000000#32, 0xFFFF0000#32), (0x90000000#32, 0xFFFFFFFF#32),
   (0xA0000000#32, 0xFFFFFFFF#32), (0xB0000000#32, 0xFFFFFFFF#32), (0xC0000000#32, 0xFFFFFFFF#32),
   (0xD0000000#32, 0xFFFFFF00#32), (0xE0000000#32, 0xFFFFFFFF#32), (0xF0000000#32, 0xFFFFFFFF#32)]

theorem mem_commandOps_iff : ∀ op : BitVec 4, op ∈ commandOps ↔ op ≠ 0#4 := by decide

theorem opcodeMap_eq_map_rowOf : opcodeMap = commandOps.map rowOf := by rfl

theorem exists_matching_row_iff (w : Word) : (∃ row ∈ opcodeMap, w &&& row.2 = row.1) ↔
    opField w ≠ 0#4 ∧ rsvField w = 0#12 ∧ (formatOf (opField w)).ZeroFieldOk w := by
  rw [opcodeMap_eq_map_rowOf]
  simp only [List.mem_map, exists_exists_and_eq_and, mem_commandOps_iff, and_rowOf_eq_iff]
  constructor
  · rintro ⟨op, hop, rfl, hrsv, hzero⟩
    exact ⟨hop, hrsv, hzero⟩
  · rintro ⟨hop, hrsv, hzero⟩
    exact ⟨_, hop, rfl, hrsv, hzero⟩

theorem offsetInMap_iff_mem (off : Byte) : offsetInMap off = true ↔
    off ∈ [0x00#8, 0x01#8, 0x02#8, 0x03#8, 0x04#8, 0x05#8, 0x06#8, 0x07#8, 0xFF#8] := by
  rw [show [0x00#8, 0x01#8, 0x02#8, 0x03#8, 0x04#8, 0x05#8, 0x06#8, 0x07#8, 0xFF#8] =
    sensorRegs.map SensorReg.offset from rfl, List.mem_map, offsetInMap, sensorRegAt, List.find?_isSome]
  simp only [beq_iff_eq]

/-- Settles O4: a word is legal by its fields (`exists_decode_ok_iff`), and the same fields make it match a row. -/
theorem legalWordsMatchTheOpcodeMap : Obligations.LegalWordsMatchTheOpcodeMap := by
  refine ⟨fun w => ?_, fun w i => decode_matches_opcodeRow⟩
  change _ ↔ (∃ row ∈ opcodeMap, w &&& row.2 = row.1) ∧ (opField w = 0xD#4 → offField w ∈ _)
  rw [exists_decode_ok_iff, exists_matching_row_iff, ← offsetInMap_iff_mem, OffsetOk]
  simp only [and_assoc]

/-! ## The illegal words -/

theorem exists_error_iff_not_exists_ok {ε α : Type} (r : Except ε α) : (∃ e, r = .error e) ↔ ¬ ∃ a, r = .ok a := by
  cases r <;> simp

theorem not_zeroFieldOk_iff {op : BitVec 4} (hop : op ≠ 0#4) (w : Word) : ¬ (formatOf op).ZeroFieldOk w ↔
    (op ∈ [0x1#4, 0x2#4] ∧ z4Field w ≠ 0#4) ∨ (op = 0xD#4 ∧ z8Field w ≠ 0#8) ∨
      (op ∈ [0x3#4, 0x4#4, 0x9#4, 0xA#4, 0xB#4, 0xC#4, 0xE#4, 0xF#4] ∧ immField w ≠ 0#16) := by
  have hcfg : ∀ op : BitVec 4, op ∈ [0x1#4, 0x2#4] ↔ formatOf op = .cfg := by decide
  have hbare : ∀ op : BitVec 4, op ≠ 0#4 →
    (op ∈ [0x3#4, 0x4#4, 0x9#4, 0xA#4, 0xB#4, 0xC#4, 0xE#4, 0xF#4] ↔ formatOf op = .bare) := by decide
  rw [hcfg, hbare op hop, ← formatOf_reg_iff]
  cases formatOf op <;> simp [WordFormat.ZeroFieldOk]

theorem not_offsetOk_iff {op : BitVec 4} {w : Word} : ¬ OffsetOk op w ↔ op = 0xD#4 ∧
    offField w ∉ [0x00#8, 0x01#8, 0x02#8, 0x03#8, 0x04#8, 0x05#8, 0x06#8, 0x07#8, 0xFF#8] := by
  rw [OffsetOk, Classical.not_imp, offsetInMap_iff_mem]

/-- Which words do not decode: the cases of 30_encoding.md R73, with the Z field by format. -/
theorem exists_decode_error_iff (w : Word) : (∃ e, decode w = .error e) ↔
    opField w = 0#4 ∨ rsvField w ≠ 0#12 ∨ ¬ (formatOf (opField w)).ZeroFieldOk w ∨ ¬ OffsetOk (opField w) w := by
  rw [exists_error_iff_not_exists_ok, exists_decode_ok_iff]
  simp only [not_and_or, not_not, ne_eq]

theorem step_of_decode_error {s : State} {e : DecodeReject} (hv : s.cmdValid = true) (hd : s.done = false)
    (h : decode s.cmd = .error e) :
    step s = .next { s with err := .illegalCmd, resValid := false, done := true } :=
  step_of_illegal (by simp [State.takesCommand, hv, hd]) h

/-- Settles O5: the illegal words are those not legal, their Z field told apart by format. -/
theorem illegalWordsAreTheFourCases : Obligations.IllegalWordsAreTheFourCases := by
  refine ⟨fun w => ?_, fun _ _ => step_of_decode_error⟩
  rw [exists_decode_error_iff, not_offsetOk_iff]
  by_cases hop : opField w = 0#4
  · exact iff_of_true (.inl hop) (.inl hop)
  · rw [not_zeroFieldOk_iff hop]
    simp only [or_assoc]
    rfl

/-! ## The pseudo-instructions (30_encoding.md R79) -/

theorem asmOff_offset (r : SensorReg) : asmOff r.offset.toNat = some r.offset := by
  cases r <;> rfl

/-- RD_RAW with the offset of a register of the map assembles to the read of that register. -/
theorem assemble_rdRaw_offset (r : SensorReg) :
    assemble .rdRaw [(r.offset.toNat : Int)] = some (assembled (.rdRaw r.offset)) := by
  simp [assemble, asmReg, asmOff_offset]

/-- Settles O57: CONFIGURE is CFG_APPLY, and each other pseudo-instruction is RD_RAW of one register of the map. -/
theorem pseudoInstructionsExpandToOneCommand : Obligations.PseudoInstructionsExpandToOneCommand :=
  ⟨fun _ _ _ _ => rfl, (assemble_rdRaw_offset .configuration).symm, (assemble_rdRaw_offset .calibration).symm,
    (assemble_rdRaw_offset .maskEnable).symm, (assemble_rdRaw_offset .alertLimit).symm,
    (assemble_rdRaw_offset .manufacturerId).symm, (assemble_rdRaw_offset .busVoltage).symm,
    (assemble_rdRaw_offset .shuntVoltage).symm, (assemble_rdRaw_offset .current).symm,
    (assemble_rdRaw_offset .power).symm, _, assemble_rdRaw_offset .power⟩

end Sys2Proof.Proofs
end

section
/-! PROOFS. The configuration word packer (40_config_packer.md): the packed word and its fields, the words of CFG_PACK
and CFG_APPLY, and what the two commands do. -/

namespace Sys2Proof.Proofs

open Sys2Proof.Machine

/-! ## The packed word (40_config_packer.md R100) -/

/-- The packed word is IMM of the F-CFG word of the same codes, so the fields of that IMM are its fields. -/
theorem packConfig_eq_cfgImm (a b v m : Code) : packConfig a b v m = cfgImm a b v m := rfl

/-- A field of a word, as a number. -/
theorem extractLsb'_toNat_eq_div_mod {n : Nat} (w : BitVec n) (start len : Nat) :
    (w.extractLsb' start len).toNat = w.toNat / 2 ^ start % 2 ^ len := by
  rw [BitVec.extractLsb'_toNat, Nat.shiftRight_eq_div_pow]

/-- A number below 2^16 is the sum of its configuration fields, each in its place. -/
theorem eq_sum_of_configFields {x : Nat} (hx : x < 2 ^ 16) :
    x = x / 2 ^ 12 % 2 ^ 4 * 2 ^ 12 + x / 2 ^ 9 % 2 ^ 3 * 2 ^ 9 + x / 2 ^ 6 % 2 ^ 3 * 2 ^ 6 +
      x / 2 ^ 3 % 2 ^ 3 * 2 ^ 3 + x / 2 ^ 0 % 2 ^ 3 := by
  omega

theorem packConfig_toNat (a b v m : Code) :
    (packConfig a b v m).toNat = a.toNat * 2 ^ 9 + b.toNat * 2 ^ 6 + v.toNat * 2 ^ 3 + m.toNat := by
  have h := eq_sum_of_configFields (cfgImm a b v m).isLt
  simp only [← extractLsb'_toNat_eq_div_mod, z4Field_cfgImm, avgField_cfgImm, vbusctField_cfgImm, vshctField_cfgImm,
    modeField_cfgImm, BitVec.toNat_ofNat, Nat.zero_mod, Nat.zero_mul, Nat.zero_add] at h
  rw [packConfig_eq_cfgImm, h]

/-- Packing the four codes of a command word gives its IMM[11:0] (40_config_packer.md R101). -/
theorem packConfig_configFields_toNat (w : Word) :
    (packConfig (avgField w) (vbusctField w) (vshctField w) (modeField w)).toNat =
      (w.extractLsb' 0 12).toNat := by
  rw [packConfig_toNat]
  simp only [avgField, vbusctField, vshctField, modeField, extractLsb'_toNat_eq_div_mod]
  omega

/-- Settles O14: the codes are the fields of the packed word, and it is the sum of its fields. -/
theorem packConfigPlacesTheCodes : Obligations.PackConfigPlacesTheCodes := by
  intro a b v m
  refine ⟨packConfig_toNat a b v m, ?_⟩
  rw [packConfig_eq_cfgImm]
  exact ⟨z4Field_cfgImm a b v m, avgField_cfgImm a b v m, vbusctField_cfgImm a b v m, vshctField_cfgImm a b v m,
    modeField_cfgImm a b v m⟩

/-! ## The words of a command, by its row of the opcode map (30_encoding.md R72, R73) -/

/-- A word is a command exactly when it matches the command's row and its fields are the command's operands. -/
theorem decode_eq_ok_iff {op : BitVec 4} {i : Instr} (hop : op ≠ 0#4) (hrow : opcodeRow i = rowOf op) (w : Word) :
    decode w = .ok i ↔ w &&& (rowOf op).2 = (rowOf op).1 ∧ decodeOp w = .ok i := by
  have hmatch : w &&& (rowOf op).2 = (rowOf op).1 → decode w = decodeOp w := fun h => by
    obtain ⟨rfl, hrsv, -⟩ := (and_rowOf_eq_iff w op).1 h
    exact decode_eq_decodeOp hop hrsv
  constructor
  · intro h
    have hm : w &&& (rowOf op).2 = (rowOf op).1 := hrow ▸ decode_matches_opcodeRow h
    exact ⟨hm, hmatch hm ▸ h⟩
  · rintro ⟨hm, h⟩
    exact (hmatch hm).trans h

/-- The words of a command of format F-CFG: those of its row, with its codes in the four fields. -/
theorem decode_eq_cfg_iff {op : BitVec 4} {mk : Code → Code → Code → Code → Instr} (hf : formatOf op = .cfg)
    (hrow : ∀ a b v m, opcodeRow (mk a b v m) = rowOf op)
    (hdec : ∀ w, opField w = op → decodeOp w = decodeCfg mk w) (w : Word) (a b v m : Code) :
    decode w = .ok (mk a b v m) ↔ w &&& (rowOf op).2 = (rowOf op).1 ∧
      mk (avgField w) (vbusctField w) (vshctField w) (modeField w) = mk a b v m := by
  have hop : op ≠ 0#4 := fun h => absurd (h ▸ hf) (by decide)
  rw [decode_eq_ok_iff hop (hrow a b v m)]
  refine and_congr_right fun hm => ?_
  obtain ⟨hw, -, hz⟩ := (and_rowOf_eq_iff w op).1 hm
  rw [hf] at hz
  rw [hdec w hw, decodeCfg_eq_ok_iff]
  exact and_iff_right hz

/-- Taking a word that does not decode raises ILLEGAL_CMD (60_exceptions.md R221). -/
theorem illegalWord_of_decode_error {w : Word} (h : ∃ e, decode w = .error e) : IllegalWord w := by
  rintro s ht rfl
  obtain ⟨e, he⟩ := h
  exact step_of_illegal ht he

/-- A word whose RSV or whose Z field, by the format of OP, is not 0 is illegal (30_encoding.md R73). -/
theorem illegalWord_of_field {op : BitVec 4} {w : Word} (hop : opField w = op)
    (h : rsvField w ≠ 0#12 ∨ ¬ (formatOf op).ZeroFieldOk w) : IllegalWord w := by
  subst hop
  refine illegalWord_of_decode_error ((exists_decode_error_iff w).2 (.inr ?_))
  exact h.imp_right .inl

/-! ## CFG_PACK (40_config_packer.md R101) -/

theorem decode_eq_cfgPack_iff (w : Word) (a b v m : Code) : decode w = .ok (.cfgPack a b v m) ↔
    w &&& 0xFFFFF000#32 = 0x10000000#32 ∧ a = avgField w ∧ b = vbusctField w ∧ v = vshctField w ∧
      m = modeField w := by
  refine (decode_eq_cfg_iff (op := 0x1#4) (by decide) (fun _ _ _ _ => rfl)
    (fun w h => by simp only [decodeOp, h]) w a b v m).trans (and_congr_right fun _ => ?_)
  rw [eq_comm, Instr.cfgPack.injEq]

/-- Settles O16: the words by their row of the opcode map, the result by `packConfig_configFields_toNat`. -/
theorem cfgPackPacksWithoutWriting : Obligations.CfgPackPacksWithoutWriting := by
  refine ⟨decode_eq_cfgPack_iff, fun w hop h => illegalWord_of_field hop h, fun _ _ _ _ _ => rfl, ?_, by decide,
    by decide, by decide, by decide⟩
  intro w a b v m h
  obtain ⟨-, rfl, rfl, rfl, rfl⟩ := (decode_eq_cfgPack_iff w a b v m).1 h
  apply BitVec.eq_of_toNat_eq
  rw [BitVec.toNat_setWidth, BitVec.toNat_setWidth, packConfig_configFields_toNat]

/-! ## CFG_APPLY (40_config_packer.md R102) -/

theorem decode_eq_cfgApply_iff (w : Word) (a b v m : Code) : decode w = .ok (.cfgApply a b v m) ↔
    w &&& 0xFFFFF000#32 = 0x20000000#32 ∧ a = avgField w ∧ b = vbusctField w ∧ v = vshctField w ∧
      m = modeField w := by
  refine (decode_eq_cfg_iff (op := 0x2#4) (by decide) (fun _ _ _ _ => rfl)
    (fun w h => by simp only [decodeOp, h]) w a b v m).trans (and_congr_right fun _ => ?_)
  rw [eq_comm, Instr.cfgApply.injEq]

theorem exec_cfgApply (a b v m : Code) (s : State) :
    exec (.cfgApply a b v m) s = .next (s.applyConfig (packConfig a b v m)) := rfl

theorem facadeConfigured_eq_ite (f : Facade) : facadeConfigured f = if f = .uninit then .configured else f := by
  cases f <;> rfl

/-- Settles O17: the words by their row, the effect by the answer to the write. -/
theorem cfgApplyWritesThePackedWord : Obligations.CfgApplyWritesThePackedWord := by
  refine ⟨decode_eq_cfgApply_iff, fun w hop h => illegalWord_of_field hop h, ?_, ?_, fun _ => rfl, by decide,
    by decide⟩
  · intro a b v m s hok
    rw [exec_cfgApply, State.applyConfig_ok hok, facadeConfigured_eq_ite]
    rfl
  · intro a b v m s hfail
    rw [exec_cfgApply, State.applyConfig_fail hfail]
    rfl

end Sys2Proof.Proofs
end

section
/-! PROOFS. The calibration (41_calibration.md): the arithmetic of the derivation, the words of CAL_DERIVE and
CALIBRATE, what the two commands do, and when the cache is written. -/

namespace Sys2Proof.Proofs

open Sys2Proof.Machine

/-! ## The current-LSB and the power-LSB (41_calibration.md R122, R123) -/

/-- k is the least multiplier of the current scale that reaches `i`. -/
theorem currentLsbOf_le_iff {i j : Nat} : currentLsbOf i ≤ j ↔ i ≤ j * 3276700 := by
  have h := currentLsbOf_bounds i
  omega

/-- An exact multiple of the current scale is not rounded up. -/
theorem currentLsbOf_mul (n : Nat) : currentLsbOf (n * 3276700) = n := by
  have h := currentLsbOf_bounds (n * 3276700)
  omega

section
variable {r i : Nat}

theorem deriveCal_k_toNat (hi : i < 2 ^ 32) : (deriveCal r i).k.toNat = currentLsbOf i := by
  have h := currentLsbOf_le hi
  rw [deriveCal_k, toNat_low16, Nat.mod_eq_of_lt (by omega)]

theorem deriveCal_p_toNat (hi : i < 2 ^ 32) : (deriveCal r i).p.toNat = 25 * currentLsbOf i := by
  have h := currentLsbOf_le hi
  rw [deriveCal_p, powerLsbOf_eq, toNat_low16, Nat.mod_eq_of_lt (by omega)]

end

/-- Settles O18: `currentLsbOf_le_iff` says that k is least, and its bound keeps it within 16 bits. -/
theorem currentLsbIsTheLeastSufficientMultiple : Obligations.CurrentLsbIsTheLeastSufficientMultiple := by
  intro r i hpos hi
  refine ⟨currentLsbOf_le_iff.1 le_rfl, fun _ => currentLsbOf_le_iff.2, currentLsbOf_pos hpos, currentLsbOf_le hi,
    ?_, deriveCal_k_toNat hi⟩
  rintro n rfl
  exact currentLsbOf_mul n

/-- Settles O19: 25 × k fits in 16 bits because k is at most 1311. -/
theorem powerLsbIsTwentyFiveCurrentLsbs : Obligations.PowerLsbIsTwentyFiveCurrentLsbs := by
  intro r i hpos hi
  have hk := currentLsbOf_pos hpos
  have hk' := currentLsbOf_le hi
  rw [deriveCal_p_toNat hi]
  omega

/-! ## The calibration value (41_calibration.md R124, R125) -/

/-- c_full is the greatest integer whose product with k × r stays within the numerator. -/
theorem le_calFullOf_iff {r k n : Nat} (h : 1 ≤ k * r) : n ≤ calFullOf r k ↔ n * (k * r) ≤ 51200000 :=
  Nat.le_div_iff_mul_le h

/-- The bound of CALOVF is that of `floor_div(51_200_000, 65536) = 781`. -/
theorem calFullOf_overflows_iff {r k : Nat} (h : 1 ≤ k * r) : 0xFFFF < calFullOf r k ↔ k * r ≤ 781 := by
  have hle : 65536 ≤ calFullOf r k ↔ 65536 * (k * r) ≤ 51200000 := le_calFullOf_iff h
  omega

theorem deriveCal_c_toNat (r i : Nat) : (deriveCal r i).c.toNat = calFullOf r (currentLsbOf i) % 2 ^ 16 := by
  rw [deriveCal_c, toNat_low16]

theorem deriveCal_z_iff (r i : Nat) : (deriveCal r i).z = true ↔ (deriveCal r i).c = 0#16 := by
  rw [deriveCal_z, calzFlag_iff]

theorem deriveCal_ovf_iff (r i : Nat) : (deriveCal r i).ovf = true ↔ 0xFFFF < calFullOf r (currentLsbOf i) := by
  rw [deriveCal_ovf, calovfFlag_iff]

/-- Settles O20: `le_calFullOf_iff` at c_full and at the next integer. -/
theorem calibrationValueIsTheFloorQuotient : Obligations.CalibrationValueIsTheFloorQuotient := by
  intro r k h
  refine ⟨(le_calFullOf_iff h).1 le_rfl, ?_, Nat.div_le_self _ _⟩
  exact not_le.1 (mt (le_calFullOf_iff h).2 (Nat.not_succ_le_self _))

/-- Settles O21: the flag by its definition, and its bound by `calFullOf_overflows_iff`. -/
theorem calibrationValueKeepsTheLowSixteenBits : Obligations.CalibrationValueKeepsTheLowSixteenBits := by
  intro r i hr hi
  have hkr : 1 ≤ currentLsbOf i * r := Nat.mul_pos (currentLsbOf_pos hi) hr
  exact ⟨deriveCal_c_toNat r i, deriveCal_ovf_iff r i, (deriveCal_ovf_iff r i).trans (calFullOf_overflows_iff hkr)⟩

/-! ## The whole derivation and its result (41_calibration.md R127) -/

section
variable (k p c : Half)

theorem packCalResult_kField : (packCalResult k p c).extractLsb' 0 16 = k := by
  ext i hi
  simp [packCalResult, show i < 64 by omega, show i < 32 by omega, hi]

theorem packCalResult_pField : (packCalResult k p c).extractLsb' 16 16 = p := by
  ext i hi
  simp [packCalResult, show 16 + i < 64 by omega, show 16 + i < 32 by omega, BitVec.getLsbD_eq_getElem hi]

theorem packCalResult_cField : (packCalResult k p c).extractLsb' 32 16 = c := by
  ext i hi
  simp [packCalResult, show 32 + i < 64 by omega, BitVec.getLsbD_eq_getElem hi,
    BitVec.getLsbD_of_ge p (32 + i - 16) (by omega), BitVec.getLsbD_of_ge k (32 + i) (by omega)]

theorem packCalResult_zeroField : (packCalResult k p c).extractLsb' 48 16 = 0#16 := by
  ext i hi
  simp [packCalResult, BitVec.getLsbD_of_ge p (48 + i - 16) (by omega),
    BitVec.getLsbD_of_ge c (48 + i - 32) (by omega), BitVec.getLsbD_of_ge k (48 + i) (by omega)]

end

/-- Settles O23: each field of the derivation by its own lemma, k by its two bounds, and each field of RES. -/
theorem deriveCalAndItsResultLayout : Obligations.DeriveCalAndItsResultLayout := by
  refine ⟨fun r i _ _ hi => ?_, fun k p c => ⟨packCalResult_kField k p c, packCalResult_pField k p c,
    packCalResult_cField k p c, packCalResult_zeroField k p c⟩⟩
  obtain ⟨hle, hlt⟩ := currentLsbOf_bounds i
  exact ⟨deriveCal_k_toNat hi, deriveCal_p_toNat hi, deriveCal_c_toNat r i, deriveCal_z_iff r i,
    deriveCal_ovf_iff r i, hlt, hle, calFullOf_eq r _⟩

/-! ## The words of a command without operands (30_encoding.md R72, R73) -/

/-- The words of a command of format F-CAL or F-NONE: its row of the opcode map alone. -/
theorem decode_eq_bare_iff {op : BitVec 4} {i : Instr} (hf : formatOf op = .bare) (hop : op ≠ 0#4)
    (hrow : opcodeRow i = rowOf op) (hdec : ∀ w, opField w = op → decodeOp w = decodeBare i w) (w : Word) :
    decode w = .ok i ↔ w &&& (rowOf op).2 = (rowOf op).1 := by
  rw [decode_eq_ok_iff hop hrow, and_iff_left_iff_imp]
  intro hm
  obtain ⟨hw, -, hz⟩ := (and_rowOf_eq_iff w op).1 hm
  rw [hf] at hz
  rw [hdec w hw, decodeBare_eq_ok_iff]
  exact ⟨hz, rfl⟩

/-- RSV and IMM are the 28 bits below OP (30_encoding.md R70). -/
theorem lowBits_eq_zero {w : Word} (hrsv : rsvField w = 0#12) (himm : immField w = 0#16) :
    w.extractLsb' 0 28 = 0#28 := by
  have h1 := congrArg BitVec.toNat hrsv
  have h2 := congrArg BitVec.toNat himm
  apply BitVec.eq_of_toNat_eq
  simp only [rsvField, immField, extractLsb'_toNat_eq_div_mod, BitVec.toNat_ofNat] at h1 h2 ⊢
  omega

/-- A word whose command carries no operand is illegal when a bit below its OP is set. -/
theorem illegalWord_of_lowBits {op : BitVec 4} {w : Word} (hf : formatOf op = .bare) (hop : opField w = op)
    (h : w.extractLsb' 0 28 ≠ 0#28) : IllegalWord w := by
  refine illegalWord_of_field hop (not_and_or.1 fun ⟨hrsv, hz⟩ => ?_)
  rw [hf] at hz
  exact h (lowBits_eq_zero hrsv hz)

/-! ## CAL_DERIVE (41_calibration.md R128) -/

section
variable {s : State}

theorem not_calOperandZero (ha : s.opa ≠ 0#32) (hb : s.opb ≠ 0#32) : ¬ s.calOperandZero = true :=
  mt s.calOperandZero_iff.1 (not_or.2 ⟨ha, hb⟩)

theorem exec_calDerive_precondition (h : s.opa = 0#32 ∨ s.opb = 0#32) :
    exec .calDerive s = .next (s.raise .calPrecondition) :=
  congrArg Host.Outcome.next (if_pos (s.calOperandZero_iff.2 h))

theorem exec_calDerive_derives (ha : s.opa ≠ 0#32) (hb : s.opb ≠ 0#32) :
    exec .calDerive s = .next ((s.setFlags s.derived.z s.derived.ovf).succeed
      (packCalResult s.derived.k s.derived.p s.derived.c)) :=
  congrArg Host.Outcome.next (if_neg (not_calOperandZero ha hb))

end

theorem decode_eq_calDerive_iff (w : Word) :
    decode w = .ok .calDerive ↔ w &&& 0xFFFFFFFF#32 = 0x30000000#32 :=
  decode_eq_bare_iff (op := 0x3#4) (by decide) (by decide) rfl (fun w h => by simp only [decodeOp, h]) w

/-- The greatest IMAX (41_calibration.md R122): k reaches its bound. -/
theorem currentLsbOf_max : currentLsbOf 4294967295 = 1311 := by
  have h := currentLsbOf_bounds 4294967295
  omega

/-- Settles O24: the words by their row of the opcode map, the effect by the precondition. -/
theorem calDeriveTouchesNeitherSensorNorCache : Obligations.CalDeriveTouchesNeitherSensorNorCache := by
  refine ⟨decode_eq_calDerive_iff, fun w hop h => illegalWord_of_lowBits (by decide) hop h,
    fun s h => exec_calDerive_precondition h, fun s ha hb => exec_calDerive_derives ha hb, by decide, by decide,
    fun r => ?_, by decide, by decide⟩
  rw [deriveCal_k, deriveCal_p, currentLsbOf_max]
  exact ⟨rfl, rfl⟩

/-! ## CALIBRATE (41_calibration.md R129 to R132) -/

section
variable {s : State}

theorem exec_calibrate_notConfigured (hf : s.facade = .uninit) :
    exec .calibrate s = .next (s.raise .notConfigured) :=
  congrArg Host.Outcome.next (State.whenConfigured_refuses hf _)

theorem exec_calibrate_precondition (hf : s.facade ≠ .uninit) (h : s.opa = 0#32 ∨ s.opb = 0#32) :
    exec .calibrate s = .next (s.raise .calPrecondition) :=
  congrArg Host.Outcome.next ((State.whenConfigured_passes hf _).trans (if_pos (s.calOperandZero_iff.2 h)))

theorem exec_calibrate_writes (hf : s.facade ≠ .uninit) (ha : s.opa ≠ 0#32) (hb : s.opb ≠ 0#32) :
    exec .calibrate s = .next ((s.setFlags s.derived.z s.derived.ovf).writeCal s.derived) :=
  congrArg Host.Outcome.next ((State.whenConfigured_passes hf _).trans (if_neg (not_calOperandZero ha hb)))

/-- The flags written, an invalidation from CONFIGURED or CALIBRATED leaves CONFIGURED (41_calibration.md R132). -/
theorem invalidate_setFlags (hf : s.facade ≠ .uninit) (z o : Bool) :
    (s.setFlags z o).invalidate = (s.setFlags z o).setFacade .configured := by
  rw [State.invalidate, State.setFlags_facade, facadeInvalidated_of_ne hf]

/-- The flags are no part of what the bus sees. -/
theorem setFlags_transact (z o : Bool) (q : BusRequest) :
    (s.setFlags z o).transact q = (s.transact q).setFlags z o := rfl

end

theorem decode_eq_calibrate_iff (w : Word) :
    decode w = .ok .calibrate ↔ w &&& 0xFFFFFFFF#32 = 0x40000000#32 :=
  decode_eq_bare_iff (op := 0x4#4) (by decide) (by decide) rfl (fun w h => by simp only [decodeOp, h]) w

/-- Settles O25: after the gate and the precondition, one case per answer of the bus. -/
theorem calibrateWritesReadsBackAndCommits : Obligations.CalibrateWritesReadsBackAndCommits := by
  refine ⟨decode_eq_calibrate_iff, fun w hop h => illegalWord_of_lowBits (by decide) hop h,
    fun s hf => exec_calibrate_notConfigured hf, fun s hf h => exec_calibrate_precondition hf h, ?_, fun _ => rfl,
    by decide, by decide⟩
  intro s t d hf ha hb hd ht
  rw [exec_calibrate_writes hf ha hb, s.derived_eq, ← hd]
  have htf : t.facade ≠ .uninit := ht ▸ hf
  have htr : (t.transact (readRequest 0x05#8)).facade ≠ .uninit := htf
  refine ⟨fun hw => ?_, fun hw => ?_⟩
  · rw [State.writeCal_fail (s := s.setFlags d.z d.ovf) hw, setFlags_transact, ← ht, invalidate_setFlags htf]
    rfl
  rw [State.writeCal_ok (s := s.setFlags d.z d.ovf) hw, setFlags_transact, ← ht]
  refine ⟨fun hr => ?_, fun v hr hv => ?_, fun hr => ?_⟩
  · rw [State.verifyCal_fail (s := t.setFlags d.z d.ovf) hr, setFlags_transact, invalidate_setFlags htr]
    rfl
  · rw [State.verifyCal_mismatch (s := t.setFlags d.z d.ovf) hr hv, setFlags_transact, invalidate_setFlags htr]
    rfl
  · rw [State.verifyCal_match (s := t.setFlags d.z d.ovf) hr]
    rfl

/-! ## The commit of the cache (41_calibration.md R131) -/

/-- The one ending of CALIBRATE without an error is the commit of the whole cache. -/
theorem commit_of_ends {s t : State} (h : Ends .calibrate s t) (he : t.err = .none) :
    t.curLsb = s.derived.k ∧ t.pwrLsb = s.derived.p ∧ t.calVal = s.derived.c ∧ t.facade = .calibrated := by
  cases h with
  | pure v hr => simp [requestsOf] at hr
  | readValue off v x hr => simp [requestsOf] at hr
  | derived _ hi | pingValue _ _ hi | applyOk _ _ _ _ _ hi | resetOk _ hi => cases hi
  | calCommit d u x hd hu =>
    subst hd
    exact ⟨rfl, rfl, rfl, rfl⟩
  | _ => cases he

/-- Settles O44: only the commit changes a cached value, and it is the ending of CALIBRATE without an error. -/
theorem cacheIsWrittenOnlyByASuccessfulCalibrate : Obligations.CacheIsWrittenOnlyByASuccessfulCalibrate := by
  intro i s t h
  have hends := ends_of_exec h
  refine ⟨?_, fun hn => ?_⟩
  · rintro rfl he
    exact commit_of_ends hends he
  · cases validityChange_of_ends hends with
    | kept _ hc | dropped _ hc => exact hc
    | committed _ hi he => exact absurd he (hn.resolve_left (not_not.2 hi))

end Sys2Proof.Proofs
end

section
/-! PROOFS. The decoder of ADC values (42_decoder.md): the decode functions and their ranges, the words of its
commands, and what each command does. -/

namespace Sys2Proof.Proofs

open Sys2Proof.Machine

/-! ## The decode functions (42_decoder.md R151 to R154) -/

section
variable (raw : Half)

theorem decodeBus_eq : decodeBus raw = raw.toNat * 1250 := rfl

theorem decodeShunt_eq : decodeShunt raw = raw.toInt * 2500 := rfl

theorem decodeCurrent_eq (k : Nat) : decodeCurrent raw k = raw.toInt * k * 100 := rfl

theorem decodePower_eq (p : Nat) : decodePower raw p = raw.toNat * p * 100 := rfl

theorem decodeBus_bounds : 0 ≤ decodeBus raw ∧ decodeBus raw ≤ 81918750 := by
  have h := raw.isLt
  rw [decodeBus_eq]
  omega

/-- The range of a two's-complement sample (42_decoder.md R150). -/
theorem sample_toInt_bounds : -32768 ≤ raw.toInt ∧ raw.toInt ≤ 32767 :=
  ⟨raw.le_toInt, Int.le_of_lt_add_one raw.toInt_lt⟩

theorem decodeShunt_bounds : -81920000 ≤ decodeShunt raw ∧ decodeShunt raw ≤ 81917500 := by
  have h := sample_toInt_bounds raw
  rw [decodeShunt_eq]
  omega

theorem decodeCurrent_bounds {k : Nat} (hk : k ≤ 1311) :
    -4295884800 ≤ decodeCurrent raw k ∧ decodeCurrent raw k ≤ 4295753700 := by
  obtain ⟨hlo, hhi⟩ := sample_toInt_bounds raw
  have hk : (k : Int) ≤ 1311 := by omega
  have hupper : raw.toInt * k ≤ 32767 * 1311 := mul_le_mul hhi hk (Int.natCast_nonneg k) (by decide)
  have hlower : -raw.toInt * k ≤ 32768 * 1311 := mul_le_mul (by omega) hk (Int.natCast_nonneg k) (by decide)
  rw [Int.neg_mul] at hlower
  rw [decodeCurrent_eq]
  omega

theorem decodePower_bounds {p : Nat} (hp : p ≤ 32775) :
    0 ≤ decodePower raw p ∧ decodePower raw p ≤ 214790962500 := by
  have hraw : raw.toNat ≤ 65535 := Nat.le_of_lt_succ raw.isLt
  have hupper : raw.toNat * p ≤ 65535 * 32775 := Nat.mul_le_mul hraw hp
  rw [decodePower_eq, ← Int.natCast_mul]
  omega

end

/-- Settles O26: the products hold by definition, the ranges by the `_bounds` of each decode function. -/
theorem decodedValuesAreExactProducts : Obligations.DecodedValuesAreExactProducts :=
  ⟨fun raw => ⟨decodeBus_eq raw, decodeBus_bounds raw⟩, fun raw => ⟨decodeShunt_eq raw, decodeShunt_bounds raw⟩,
    fun raw k => ⟨decodeCurrent_eq raw k, fun _ => decodeCurrent_bounds raw⟩,
    fun raw p => ⟨decodePower_eq raw p, fun _ => decodePower_bounds raw⟩⟩

/-! ## The words of the commands (30_encoding.md R72, R73) -/

/-- The words of a command of format F-RAW: those of its row of the opcode map, with its sample in IMM. -/
theorem decode_eq_raw_iff {op : BitVec 4} {mk : Half → Instr} (hop : op ≠ 0#4) (hinj : Function.Injective mk)
    (hrow : ∀ x, opcodeRow (mk x) = rowOf op) (hdec : ∀ w, opField w = op → decodeOp w = decodeRaw mk w)
    (w : Word) (raw : Half) :
    decode w = .ok (mk raw) ↔ w &&& (rowOf op).2 = (rowOf op).1 ∧ raw = immField w := by
  rw [decode_eq_ok_iff hop (hrow raw)]
  refine and_congr_right fun hm => ?_
  obtain ⟨hw, -, -⟩ := (and_rowOf_eq_iff w op).1 hm
  rw [hdec w hw, decodeRaw_eq_ok_iff, hinj.eq_iff, eq_comm]

section
variable (w : Word)

theorem decode_eq_decBus_iff (raw : Half) : decode w = .ok (.decBus raw) ↔
    w &&& 0xFFFF0000#32 = 0x50000000#32 ∧ raw = immField w :=
  decode_eq_raw_iff (op := 0x5#4) (by decide) (fun _ _ => Instr.decBus.inj) (fun _ => rfl)
    (fun w h => by simp only [decodeOp, h]) w raw

theorem decode_eq_decShunt_iff (raw : Half) : decode w = .ok (.decShunt raw) ↔
    w &&& 0xFFFF0000#32 = 0x60000000#32 ∧ raw = immField w :=
  decode_eq_raw_iff (op := 0x6#4) (by decide) (fun _ _ => Instr.decShunt.inj) (fun _ => rfl)
    (fun w h => by simp only [decodeOp, h]) w raw

theorem decode_eq_decCurrent_iff (raw : Half) : decode w = .ok (.decCurrent raw) ↔
    w &&& 0xFFFF0000#32 = 0x70000000#32 ∧ raw = immField w :=
  decode_eq_raw_iff (op := 0x7#4) (by decide) (fun _ _ => Instr.decCurrent.inj) (fun _ => rfl)
    (fun w h => by simp only [decodeOp, h]) w raw

theorem decode_eq_decPower_iff (raw : Half) : decode w = .ok (.decPower raw) ↔
    w &&& 0xFFFF0000#32 = 0x80000000#32 ∧ raw = immField w :=
  decode_eq_raw_iff (op := 0x8#4) (by decide) (fun _ _ => Instr.decPower.inj) (fun _ => rfl)
    (fun w h => by simp only [decodeOp, h]) w raw

theorem decode_eq_rdBus_iff : decode w = .ok .rdBus ↔ w &&& 0xFFFFFFFF#32 = 0x90000000#32 :=
  decode_eq_bare_iff (op := 0x9#4) (by decide) (by decide) rfl (fun w h => by simp only [decodeOp, h]) w

theorem decode_eq_rdShunt_iff : decode w = .ok .rdShunt ↔ w &&& 0xFFFFFFFF#32 = 0xA0000000#32 :=
  decode_eq_bare_iff (op := 0xA#4) (by decide) (by decide) rfl (fun w h => by simp only [decodeOp, h]) w

theorem decode_eq_rdCurrent_iff : decode w = .ok .rdCurrent ↔ w &&& 0xFFFFFFFF#32 = 0xB0000000#32 :=
  decode_eq_bare_iff (op := 0xB#4) (by decide) (by decide) rfl (fun w h => by simp only [decodeOp, h]) w

theorem decode_eq_rdPower_iff : decode w = .ok .rdPower ↔ w &&& 0xFFFFFFFF#32 = 0xC0000000#32 :=
  decode_eq_bare_iff (op := 0xC#4) (by decide) (by decide) rfl (fun w h => by simp only [decodeOp, h]) w

/-- The words of RD_RAW: those of its row whose offset is in the map. -/
theorem decode_eq_rdRaw_iff (off : Byte) : decode w = .ok (.rdRaw off) ↔
    w &&& 0xFFFFFF00#32 = 0xD0000000#32 ∧ off = offField w ∧
      off ∈ [0x00#8, 0x01#8, 0x02#8, 0x03#8, 0x04#8, 0x05#8, 0x06#8, 0x07#8, 0xFF#8] := by
  refine (decode_eq_ok_iff (op := 0xD#4) (by decide) rfl w).trans (and_congr_right fun hm => ?_)
  obtain ⟨hw, -, hz⟩ := (and_rowOf_eq_iff w 0xD#4).1 hm
  have hdec : decodeOp w = decodeReg .rdRaw w := by simp only [decodeOp, hw]
  rw [hdec, decodeReg_eq_ok_iff, ← offsetInMap_iff_mem, Instr.rdRaw.injEq]
  constructor
  · rintro ⟨-, hmap, rfl⟩
    exact ⟨rfl, hmap⟩
  · rintro ⟨rfl, hmap⟩
    exact ⟨hz, hmap, rfl⟩

end

/-- A word with the OP of RD_RAW is illegal when its RSV or its Z8 is not 0, or its offset is not in the map. -/
theorem illegalWord_rdRaw {w : Word} (hop : opField w = 0xD#4) (h : rsvField w ≠ 0#12 ∨ z8Field w ≠ 0#8 ∨
    offField w ∉ [0x00#8, 0x01#8, 0x02#8, 0x03#8, 0x04#8, 0x05#8, 0x06#8, 0x07#8, 0xFF#8]) : IllegalWord w := by
  rcases h with hrsv | hz | hoff
  · exact illegalWord_of_field hop (.inl hrsv)
  · exact illegalWord_of_field hop (.inr hz)
  · exact illegalWord_of_decode_error
      ((exists_decode_error_iff w).2 (.inr (.inr (.inr (not_offsetOk_iff.2 ⟨hop, hoff⟩)))))

/-! ## What the commands do: the gates, and one read with its result -/

section
variable {s : State}

theorem exec_of_uninit {i : Instr} (hn : needsConfigured i = true) (hf : s.facade = .uninit) :
    exec i s = .next (s.raise .notConfigured) := by
  cases i with
  | calibrate | rdBus | rdShunt => exact congrArg Host.Outcome.next (State.whenConfigured_refuses hf _)
  | _ => cases hn

theorem exec_of_not_calibrated {i : Instr} (hn : needsCalibrated i = true) (hf : s.facade ≠ .calibrated) :
    exec i s = .next (s.raise .notCalibrated) := by
  cases i with
  | decCurrent | decPower | rdCurrent | rdPower =>
    exact congrArg Host.Outcome.next (State.whenCalibrated_refuses hf _)
  | _ => cases hn

theorem exec_decCurrent (hf : s.facade = .calibrated) (raw : Half) :
    exec (.decCurrent raw) s = .next (s.succeed (toResult (decodeCurrent raw s.currentLsb))) :=
  congrArg Host.Outcome.next (State.whenCalibrated_passes hf _)

theorem exec_decPower (hf : s.facade = .calibrated) (raw : Half) :
    exec (.decPower raw) s = .next (s.succeed (toResult (decodePower raw s.powerLsb))) :=
  congrArg Host.Outcome.next (State.whenCalibrated_passes hf _)

theorem exec_rdBus (hf : s.facade ≠ .uninit) :
    exec .rdBus s = .next (s.readResult .busVoltage fun v => toResult (decodeBus v)) :=
  congrArg Host.Outcome.next (State.whenConfigured_passes hf _)

theorem exec_rdShunt (hf : s.facade ≠ .uninit) :
    exec .rdShunt s = .next (s.readResult .shuntVoltage fun v => toResult (decodeShunt v)) :=
  congrArg Host.Outcome.next (State.whenConfigured_passes hf _)

theorem exec_rdCurrent (hf : s.facade = .calibrated) :
    exec .rdCurrent s = .next (s.readResult .current fun v => toResult (decodeCurrent v s.currentLsb)) :=
  congrArg Host.Outcome.next (State.whenCalibrated_passes hf _)

theorem exec_rdPower (hf : s.facade = .calibrated) :
    exec .rdPower s = .next (s.readResult .power fun v => toResult (decodePower v s.powerLsb)) :=
  congrArg Host.Outcome.next (State.whenCalibrated_passes hf _)

theorem exec_rdRaw_offset (r : SensorReg) : exec (.rdRaw r.offset) s = .next (s.readResult r zext64) := by
  rw [exec, execRdRaw, sensorRegAt_offset]

/-- A command that is one read of `r` with the result `f`, when the read fails. -/
theorem exec_read_fail {i : Instr} {r : SensorReg} {f : Half → Result} (he : exec i s = .next (s.readResult r f))
    (h : readValue (s.answer (readRequest r.offset)) = none) :
    exec i s = .next ((s.transact (readRequest r.offset)).raise .transport) := by
  rw [he, State.readResult_fail f h]

/-- A command that is one read of `r` with the result `f`, when the read yields a value. -/
theorem exec_read_value {i : Instr} {r : SensorReg} {f : Half → Result} {v : Half}
    (he : exec i s = .next (s.readResult r f)) (h : readValue (s.answer (readRequest r.offset)) = some v) :
    exec i s = .next ((s.transact (readRequest r.offset)).succeed (f v)) := by
  rw [he, State.readResult_value f h]

end

/-! ## DEC_BUS, DEC_SHUNT, DEC_CURRENT and DEC_POWER (42_decoder.md R155 to R158) -/

/-- Settles O29: the words by their row of the opcode map; the command has no gate. -/
theorem decBusDecodesTheSample : Obligations.DecBusDecodesTheSample :=
  ⟨decode_eq_decBus_iff, fun _ hop h => illegalWord_of_field hop (.inl h), fun _ _ => rfl, by decide, by decide,
    by decide, by decide, by decide⟩

/-- Settles O30: as O29, with the sample signed. -/
theorem decShuntDecodesTheSample : Obligations.DecShuntDecodesTheSample :=
  ⟨decode_eq_decShunt_iff, fun _ hop h => illegalWord_of_field hop (.inl h), fun _ _ => rfl, by decide, by decide,
    by decide, by decide, by decide⟩

/-- Settles O31: the words by their row of the opcode map, the effect by the gate on CALIBRATED. -/
theorem decCurrentUsesTheCachedLsb : Obligations.DecCurrentUsesTheCachedLsb :=
  ⟨decode_eq_decCurrent_iff, fun _ hop h => illegalWord_of_field hop (.inl h),
    fun _ _ hf => exec_of_not_calibrated rfl hf, fun raw _ hf => exec_decCurrent hf raw, by decide, by decide,
    by decide, by decide, by decide⟩

/-- Settles O32: as O31, with the sample unsigned and the power-LSB. -/
theorem decPowerUsesTheCachedLsb : Obligations.DecPowerUsesTheCachedLsb :=
  ⟨decode_eq_decPower_iff, fun _ hop h => illegalWord_of_field hop (.inl h),
    fun _ _ hf => exec_of_not_calibrated rfl hf, fun raw _ hf => exec_decPower hf raw, by decide, by decide,
    by decide, by decide⟩

/-! ## RD_BUS, RD_SHUNT, RD_CURRENT and RD_POWER (42_decoder.md R159 to R162) -/

/-- Settles O33: after the gate on UNINIT, one case per answer to the read. -/
theorem rdBusReadsAndDecodes : Obligations.RdBusReadsAndDecodes :=
  ⟨decode_eq_rdBus_iff, fun _ hop h => illegalWord_of_lowBits (by decide) hop h,
    fun _ hf => exec_of_uninit rfl hf, fun _ hf h => exec_read_fail (exec_rdBus hf) h,
    fun _ _ hf h => exec_read_value (exec_rdBus hf) h, by decide, by decide⟩

/-- Settles O34: as O33, with the value signed. -/
theorem rdShuntReadsAndDecodes : Obligations.RdShuntReadsAndDecodes :=
  ⟨decode_eq_rdShunt_iff, fun _ hop h => illegalWord_of_lowBits (by decide) hop h,
    fun _ hf => exec_of_uninit rfl hf, fun _ hf h => exec_read_fail (exec_rdShunt hf) h,
    fun _ _ hf h => exec_read_value (exec_rdShunt hf) h, by decide, by decide, by decide, by decide⟩

/-- Settles O35: after the gate on CALIBRATED, one case per answer to the read. -/
theorem rdCurrentReadsAndDecodes : Obligations.RdCurrentReadsAndDecodes :=
  ⟨decode_eq_rdCurrent_iff, fun _ hop h => illegalWord_of_lowBits (by decide) hop h,
    fun _ hf => exec_of_not_calibrated rfl hf, fun _ hf h => exec_read_fail (exec_rdCurrent hf) h,
    fun _ _ hf h => exec_read_value (exec_rdCurrent hf) h, by decide, by decide, by decide, by decide, by decide⟩

/-- Settles O36: as O35, with the value unsigned and the power-LSB. -/
theorem rdPowerReadsAndDecodes : Obligations.RdPowerReadsAndDecodes :=
  ⟨decode_eq_rdPower_iff, fun _ hop h => illegalWord_of_lowBits (by decide) hop h,
    fun _ hf => exec_of_not_calibrated rfl hf, fun _ hf h => exec_read_fail (exec_rdPower hf) h,
    fun _ _ hf h => exec_read_value (exec_rdPower hf) h, by decide, by decide, by decide, by decide⟩

/-! ## RD_RAW (42_decoder.md R163) -/

/-- An offset of the map is the offset of one of its registers. -/
theorem exists_offset_eq_of_mem {off : Byte}
    (h : off ∈ [0x00#8, 0x01#8, 0x02#8, 0x03#8, 0x04#8, 0x05#8, 0x06#8, 0x07#8, 0xFF#8]) :
    ∃ r : SensorReg, r.offset = off := by
  obtain ⟨r, hr⟩ := Option.isSome_iff_exists.1 ((offsetInMap_iff_mem off).2 h)
  exact ⟨r, offset_of_sensorRegAt hr⟩

/-- Settles O37: the words by their row and the map, the effect by the answer to the read of the offset's register. -/
theorem rdRawReturnsTheRegisterUndecoded : Obligations.RdRawReturnsTheRegisterUndecoded := by
  refine ⟨decode_eq_rdRaw_iff, fun _ hop h => illegalWord_rdRaw hop h, fun off s hoff => ?_,
    illegalWord_rdRaw (by decide) (.inr (.inr (by decide))), by decide, by decide⟩
  obtain ⟨r, rfl⟩ := exists_offset_eq_of_mem hoff
  exact ⟨fun h => exec_read_fail (exec_rdRaw_offset r) h, fun _ h => exec_read_value (exec_rdRaw_offset r) h⟩

end Sys2Proof.Proofs
end

section
/-! PROOFS. Device control (43_device_control.md): the words of RESET and PING, and what the two commands do. -/

namespace Sys2Proof.Proofs

open Sys2Proof.Machine

/-! ## RESET (43_device_control.md R190) -/

theorem decode_eq_reset_iff (w : Word) : decode w = .ok .reset ↔ w &&& 0xFFFFFFFF#32 = 0xE0000000#32 :=
  decode_eq_bare_iff (op := 0xE#4) (by decide) (by decide) rfl (fun w h => by simp only [decodeOp, h]) w

/-- STATE is UNINIT after RESET, whatever the bus answered. -/
theorem facade_of_exec_reset {s t : State} (h : exec .reset s = .next t) : t.facade = .uninit := by
  cases ha : writeOk (s.answer (writeRequest 0x00#8 resetWord)) with
  | false =>
    rw [exec_reset_fail ha] at h
    cases h
    rfl
  | true =>
    rw [exec_reset_ok ha] at h
    cases h
    rfl

/-- A command that needs a valid cache is refused after RESET (60_exceptions.md R211). -/
theorem exec_after_reset {i : Instr} (hn : needsCalibrated i = true) {s t : State} (h : exec .reset s = .next t) :
    exec i t = .next (t.raise .notCalibrated) :=
  exec_of_not_calibrated hn (by rw [facade_of_exec_reset h]; decide)

/-- Settles O38: the words by their row of the opcode map, the effect by the answer to the write, and the refusal of
DEC_CURRENT by the gate on CALIBRATED. -/
theorem resetWritesTheResetWordAndLeavesUninit : Obligations.ResetWritesTheResetWordAndLeavesUninit :=
  ⟨decode_eq_reset_iff, fun _ hop h => illegalWord_of_lowBits (by decide) hop h, rfl, fun _ h => exec_reset_ok h,
    fun _ h => exec_reset_fail h, fun _ _ _ h => exec_after_reset rfl h⟩

/-! ## PING (43_device_control.md R191) -/

theorem decode_eq_ping_iff (w : Word) : decode w = .ok .ping ↔ w &&& 0xFFFFFFFF#32 = 0xF0000000#32 :=
  decode_eq_bare_iff (op := 0xF#4) (by decide) (by decide) rfl (fun w h => by simp only [decodeOp, h]) w

theorem pingResult_identity : pingResult 0x2260#16 = 1#64 := if_pos rfl

theorem pingResult_of_ne {v : Half} (hv : v ≠ 0x2260#16) : pingResult v = 0#64 := if_neg hv

/-- Settles O39: the words by their row of the opcode map, the effect by the answer to the read and by whether its
value is the identity constant. -/
theorem pingComparesTheIdentityConstant : Obligations.PingComparesTheIdentityConstant := by
  refine ⟨decode_eq_ping_iff, fun _ hop h => illegalWord_of_lowBits (by decide) hop h, fun _ h => exec_ping_fail h,
    fun s h => ?_, fun s v h hv => ?_, by decide, by decide⟩
  · rw [exec_ping_value h, pingResult_identity]
    rfl
  · rw [exec_ping_value h, pingResult_of_ne hv]
    rfl

end Sys2Proof.Proofs
end

section
/-! PROOFS. The errors (60_exceptions.md): what a command that ends in an error leaves written, the cause of each error
kind and the order of the checks, and the command after an error. -/

namespace Sys2Proof.Proofs

open Sys2Proof.Machine

/-! ## The writes that stand after an error (60_exceptions.md R212) -/

/-- An error that invalidates nothing leaves STATE and the flags as they were. -/
theorem keeps_of_ends_error {i : Instr} {s t : State} (h : Ends i s t) (he : t.err ≠ .none)
    (hn : ¬ Invalidates i t) : t.facade = s.facade ∧ t.calz = s.calz ∧ t.calovf = s.calovf := by
  cases h with
  | notConfigured | notCalibrated | illegal | calPrecondition | readFail | pingFail | applyFail =>
    exact ⟨rfl, rfl, rfl⟩
  | resetFail hi => exact absurd (.inl hi) hn
  | calWriteFail d hd hi | calReadFail d u hd hu hi => exact absurd (.inr ⟨hi, .inl rfl⟩) hn
  | calMismatch d u v hd hu hi => exact absurd (.inr ⟨hi, .inr rfl⟩) hn
  | _ => exact absurd rfl he

/-- A CALIBRATE that failed on the bus or in the verify has written its flags and invalidated the cache. -/
theorem calibrate_failure_of_ends {s t : State} (h : Ends .calibrate s t)
    (he : t.err = .transport ∨ t.err = .calVerifyMismatch) :
    t.facade = .configured ∧ t.calz = s.derived.z ∧ t.calovf = s.derived.ovf := by
  cases h with
  | readFail off hr => simp [requestsOf] at hr
  | pingFail hi | applyFail _ _ _ _ hi | resetFail hi => cases hi
  | calWriteFail d hd =>
    subst hd
    exact ⟨rfl, rfl, rfl⟩
  | calReadFail d u hd hu | calMismatch d u v hd hu =>
    subst hd hu
    exact ⟨rfl, rfl, rfl⟩
  | _ => simp at he

/-- No error writes a cached value. -/
theorem keepsCache_of_ends_error {i : Instr} {s t : State} (h : Ends i s t) (he : t.err ≠ .none) :
    KeepsCache s t := by
  cases validityChange_of_ends h with
  | kept _ hc | dropped _ hc => exact hc
  | committed _ _ hnone => exact absurd hnone he

/-- A command but PING that ends in an error has no result and leaves RES as it was. -/
theorem res_of_exec_error {i : Instr} {s t : State} (h : exec i s = .next t) (he : t.err ≠ .none) (hp : i ≠ .ping) :
    t.resValid = false ∧ t.res = s.res := by
  have hv : t.resValid = false := by
    rwa [← Bool.not_eq_true, ← ends_err_iff_resValid (ends_of_exec h) hp]
  exact ⟨hv, ((resValidSaysWhetherResIsWritten i s t s.res h).2 hv).1⟩

/-- The one error of PING, and its result (43_device_control.md R191). -/
theorem ping_of_exec_error {s t : State} (h : exec .ping s = .next t) (he : t.err ≠ .none) :
    t.err = .transport ∧ t.resValid = true ∧ t.res = 0#64 := by
  cases ha : readValue (s.answer (readRequest 0xFF#8)) with
  | none =>
    rw [exec_ping_fail ha] at h
    cases h
    exact ⟨rfl, rfl, rfl⟩
  | some v =>
    rw [exec_ping_value ha] at h
    cases h
    exact absurd rfl he

/-- Settles O47: one lemma per clause; only an error with `Invalidates` leaves a write to STATE, CALZ or CALOVF, and
RESET, which derives nothing, leaves the flags. -/
theorem errorsLeaveTheResultAndKeepEarlierWrites : Obligations.ErrorsLeaveTheResultAndKeepEarlierWrites := by
  intro i s t h he
  have hends := ends_of_exec h
  refine ⟨res_of_exec_error h he, ?_, keepsCache_of_ends_error hends he, ?_, ?_, fun hn => ?_⟩
  · rintro rfl
    exact ping_of_exec_error h he
  · rintro rfl
    exact facade_of_exec_reset h
  · rintro rfl
    exact calibrate_failure_of_ends hends
  · by_cases hr : i = .reset
    · subst hr
      obtain ⟨hd, -⟩ | ⟨-, hz, ho⟩ := flags_of_ends hends
      · exact absurd hd (not_derives_of_ne nofun nofun)
      · exact ⟨hz, ho, fun hr => absurd rfl hr⟩
    · have hi : ¬ Invalidates i t :=
        hn.elim (not_invalidates_of_ne hr) fun ⟨ht, hv⟩ => not_invalidates_of_err hr ht hv
      obtain ⟨hf, hz, ho⟩ := keeps_of_ends_error hends he hi
      exact ⟨hz, ho, fun _ => hf⟩

/-! ## The checks before the first transaction (60_exceptions.md R213, items 1 to 3) -/

/-- The decoder gives no term without a meaning (30_encoding.md R73). -/
theorem wellFormed_of_decode {w : Word} {i : Instr} (h : decode w = .ok i) : i.wellFormed = true := by
  cases i with
  | rdRaw off =>
    obtain ⟨-, -, hoff⟩ := (decode_eq_rdRaw_iff w off).1 h
    exact (offsetInMap_iff_mem off).2 hoff
  | _ => rfl

section
variable {i : Instr} {s t : State}

theorem err_ne_illegalCmd_of_ends (h : Ends i s t) (hw : i.wellFormed = true) : t.err ≠ .illegalCmd := by
  intro he
  cases h with
  | illegal hn => exact absurd hw (ne_true_of_eq_false hn)
  | _ => cases he

/-- The error of a command known to be refused. -/
theorem err_of_exec_raise {k : ErrKind} (hk : exec i s = .next (s.raise k)) (h : exec i s = .next t) : t.err = k := by
  rw [hk] at h
  cases h
  rfl

theorem err_notConfigured_iff (h : exec i s = .next t) :
    t.err = .notConfigured ↔ needsConfigured i = true ∧ s.facade = .uninit := by
  refine ⟨fun he => ?_, fun ⟨hn, hf⟩ => err_of_exec_raise (exec_of_uninit hn hf) h⟩
  cases ends_of_exec h with
  | notConfigured hn hf => exact ⟨hn, hf⟩
  | _ => cases he

theorem err_notCalibrated_iff (h : exec i s = .next t) :
    t.err = .notCalibrated ↔ needsCalibrated i = true ∧ s.facade ≠ .calibrated := by
  refine ⟨fun he => ?_, fun ⟨hn, hf⟩ => err_of_exec_raise (exec_of_not_calibrated hn hf) h⟩
  cases ends_of_exec h with
  | notCalibrated hn hf => exact ⟨hn, hf⟩
  | _ => cases he

theorem err_calPrecondition_iff (h : exec i s = .next t) :
    t.err = .calPrecondition ↔
      (i = .calDerive ∨ (i = .calibrate ∧ s.facade ≠ .uninit)) ∧ (s.opa = 0#32 ∨ s.opb = 0#32) := by
  constructor
  · intro he
    cases ends_of_exec h with
    | calPrecondition hi hz => exact ⟨hi, hz⟩
    | _ => cases he
  · rintro ⟨rfl | ⟨rfl, hf⟩, hz⟩
    · exact err_of_exec_raise (exec_calDerive_precondition hz) h
    · exact err_of_exec_raise (exec_calibrate_precondition hf hz) h

end

/-! ## The transactions and the errors they cause (60_exceptions.md R213, items 4 and 5) -/

theorem write_failed {off : Byte} {v : Half} {a : BusAnswer} :
    BusTransaction.failed ⟨writeRequest off v, a⟩ = !writeOk a := rfl

theorem read_failed {off : Byte} {a : BusAnswer} :
    BusTransaction.failed ⟨readRequest off, a⟩ = (readValue a).isNone := rfl

/-- The transactions that a command `i` from `s` makes, by the error it ends with. -/
inductive BusOutcome (i : Instr) (s : State) : ErrKind → List BusTransaction → Prop where
  | noTransaction {e : ErrKind} (ht : e ≠ .transport) (hv : e ≠ .calVerifyMismatch) : BusOutcome i s e []
  | failed (before : List BusTransaction) {tr : BusTransaction} (hf : tr.failed = true) :
      BusOutcome i s .transport (before ++ [tr])
  /-- The one transaction of a command other than CALIBRATE. -/
  | succeeded {tr : BusTransaction} (hi : i ≠ .calibrate) (hf : tr.failed = false) : BusOutcome i s .none [tr]
  /-- The write and the read-back of CALIBRATE, compared (41_calibration.md R130). -/
  | readBack {written answer : BusAnswer} {v : Half} (hi : i = .calibrate) (hw : writeOk written = true)
      (hr : readValue answer = some v) :
      BusOutcome i s (if v = s.derived.c then .none else .calVerifyMismatch)
        [⟨writeRequest 0x05#8 s.derived.c, written⟩, ⟨readRequest 0x05#8, answer⟩]

theorem busOutcome_of_ends {i : Instr} {s t : State} (h : Ends i s t) :
    ∃ new, t.busLog = s.busLog ++ new ∧ BusOutcome i s t.err new := by
  cases h with
  | pure | notConfigured | notCalibrated | illegal | calPrecondition | derived =>
    exact ⟨[], (List.append_nil _).symm, .noTransaction nofun nofun⟩
  | readFail off _ _ _ _ _ ha | pingFail _ ha => exact ⟨_, rfl, .failed [] (by simp [read_failed, ha])⟩
  | applyFail _ _ _ _ _ ha | resetFail _ ha | calWriteFail _ _ _ _ _ _ ha =>
    exact ⟨_, rfl, .failed [] (by simp [write_failed, ha])⟩
  | readValue off v x hr _ _ _ _ ha =>
    exact ⟨_, rfl, .succeeded (by rintro rfl; simp [requestsOf] at hr) (by simp [read_failed, ha])⟩
  | pingValue v x hi ha => exact ⟨_, rfl, .succeeded (hi ▸ nofun) (by simp [read_failed, ha])⟩
  | applyOk _ _ _ _ _ hi ha | resetOk _ hi ha =>
    exact ⟨_, rfl, .succeeded (hi ▸ nofun) (by simp [write_failed, ha])⟩
  | calReadFail d u hd hu _ _ _ _ _ hr =>
    subst hu
    exact ⟨_, List.append_assoc .., .failed [_] (by simp [read_failed, hr])⟩
  | calMismatch d u v hd hu hi _ _ _ hw hr hv =>
    subst hd hu
    have ho := BusOutcome.readBack (s := s) hi hw hr
    rw [if_neg hv] at ho
    exact ⟨_, List.append_assoc .., ho⟩
  | calCommit d u x hd hu hi _ _ _ hw hr =>
    subst hd hu
    have ho := BusOutcome.readBack (s := s) hi hw hr
    rw [if_pos rfl] at ho
    exact ⟨_, List.append_assoc .., ho⟩

section
variable {i : Instr} {s : State} {e : ErrKind} {new : List BusTransaction} (h : BusOutcome i s e new)
include h

theorem BusOutcome.transport_iff : e = .transport ↔ ∃ tr ∈ new, tr.failed = true := by
  cases h with
  | noTransaction ht => simp [ht]
  | failed before hf => exact iff_of_true rfl ⟨_, by simp, hf⟩
  | succeeded _ hf => simp [hf]
  | readBack _ hw hr => split <;> simp [write_failed, read_failed, hw, hr]

theorem BusOutcome.calVerifyMismatch_iff : e = .calVerifyMismatch ↔ i = .calibrate ∧ ∃ written answer v,
    new = [⟨writeRequest 0x05#8 s.derived.c, written⟩, ⟨readRequest 0x05#8, answer⟩] ∧
      writeOk written = true ∧ readValue answer = some v ∧ v ≠ s.derived.c := by
  constructor
  · intro he
    cases h with
    | noTransaction _ hv => exact absurd he hv
    | failed | succeeded => cases he
    | readBack hi hw hr =>
      refine ⟨hi, _, _, _, rfl, hw, hr, fun hv => ?_⟩
      rw [if_pos hv] at he
      cases he
  · rintro ⟨hi, written, answer, v, hnew, hw, hr, hv⟩
    have ht : e ≠ .transport := by simp [h.transport_iff, hnew, write_failed, read_failed, hw, hr]
    cases h with
    | noTransaction => cases hnew
    | failed => exact absurd rfl ht
    | succeeded hn => exact absurd hi hn
    | readBack _ _ hr' =>
      cases hnew
      obtain rfl := Option.some.inj (hr'.symm.trans hr)
      exact if_neg hv

/-- Only TRANSPORT, a mismatch and success leave transactions behind. -/
theorem BusOutcome.nil_of_refused (he : e = .notConfigured ∨ e = .notCalibrated ∨ e = .calPrecondition) :
    new = [] := by
  cases h with
  | noTransaction => rfl
  | failed | succeeded => simp at he
  | readBack => split at he <;> simp at he

end

/-- A step that takes a word that decodes runs its command and raises DONE (10_state.md R37). -/
theorem exec_of_step {i : Instr} {s t : State} (hv : s.cmdValid = true) (hd : s.done = false)
    (h : decode s.cmd = .ok i) (hs : step s = .next t) : ∃ u, exec i s = .next u ∧ t = u.raiseDone := by
  obtain ⟨u, hu, -⟩ := exec_ends i s
  rw [step_of_command (by simp [State.takesCommand, hv, hd]) h hu] at hs
  cases hs
  exact ⟨u, hu, rfl⟩

/-- Settles O48: the checks before the first transaction by their gates, the two errors of the bus by `BusOutcome`. -/
theorem errorKindsHaveTheirCausesInPriorityOrder : Obligations.ErrorKindsHaveTheirCausesInPriorityOrder := by
  refine ⟨⟨rfl, rfl, rfl, rfl, rfl, rfl⟩, fun s t hv hd hs => ⟨fun e he => ?_, fun i hi => ?_⟩⟩
  · rw [step_of_decode_error hv hd he] at hs
    cases hs
    exact ⟨rfl, rfl⟩
  · obtain ⟨u, hu, rfl⟩ := exec_of_step hv hd hi hs
    have hends := ends_of_exec hu
    obtain ⟨new, hlog, ho⟩ := busOutcome_of_ends hends
    simp only [State.raiseDone_err, State.raiseDone_busLog]
    exact ⟨new, hlog, err_ne_illegalCmd_of_ends hends (wellFormed_of_decode hi), err_notConfigured_iff hu,
      err_notCalibrated_iff hu, err_calPrecondition_iff hu, ho.transport_iff, ho.calVerifyMismatch_iff, ho.nil_of_refused⟩

/-! ## The command after an error (60_exceptions.md R214) -/

/-- `s` with ERR and RES_VALID left otherwise by the command before. -/
def withError (s : State) (e : ErrKind) (b : Bool) : State := { s with err := e, resValid := b }

section
variable (s : State) (e : ErrKind) (b : Bool)

theorem readResult_withError (r : SensorReg) (f : Half → Result) :
    (withError s e b).readResult r f = s.readResult r f := by
  cases ha : readValue (s.answer (readRequest r.offset)) with
  | none => exact (State.readResult_fail (s := withError s e b) f ha).trans (State.readResult_fail f ha).symm
  | some v => exact (State.readResult_value (s := withError s e b) f ha).trans (State.readResult_value f ha).symm

theorem applyConfig_withError (w : Half) : (withError s e b).applyConfig w = s.applyConfig w := by
  cases ha : writeOk (s.answer (writeRequest 0x00#8 w)) with
  | false => exact (State.applyConfig_fail (s := withError s e b) ha).trans (State.applyConfig_fail ha).symm
  | true => exact (State.applyConfig_ok (s := withError s e b) ha).trans (State.applyConfig_ok ha).symm

theorem verifyCal_withError (d : CalParams) : (withError s e b).verifyCal d = s.verifyCal d := by
  rcases State.verifyCal_cases (s := s) d with ⟨ha, he⟩ | ⟨v, ha, hv, he⟩ | ⟨ha, he⟩ <;> rw [he]
  · exact State.verifyCal_fail (s := withError s e b) ha
  · exact State.verifyCal_mismatch (s := withError s e b) ha hv
  · exact State.verifyCal_match (s := withError s e b) ha

theorem writeCal_withError (d : CalParams) : (withError s e b).writeCal d = s.writeCal d := by
  rcases State.writeCal_cases (s := s) d with ⟨ha, he⟩ | ⟨ha, he⟩ <;> rw [he]
  · exact State.writeCal_fail (s := withError s e b) ha
  · exact (State.writeCal_ok (s := withError s e b) ha).trans (verifyCal_withError (s.transact _) e b d)

theorem exec_calibrate_withError : exec .calibrate (withError s e b) = exec .calibrate s := by
  by_cases hf : s.facade = .uninit
  · rw [exec_calibrate_notConfigured hf]
    exact exec_calibrate_notConfigured (s := withError s e b) hf
  by_cases hz : s.opa = 0#32 ∨ s.opb = 0#32
  · rw [exec_calibrate_precondition hf hz]
    exact exec_calibrate_precondition (s := withError s e b) hf hz
  · obtain ⟨ha, hb⟩ := not_or.1 hz
    rw [exec_calibrate_writes hf ha hb, exec_calibrate_writes (s := withError s e b) hf ha hb]
    exact congrArg Host.Outcome.next (writeCal_withError (s.setFlags _ _) e b s.derived)

theorem exec_rdRaw_withError (off : Byte) : exec (.rdRaw off) (withError s e b) = exec (.rdRaw off) s := by
  rw [exec, exec, execRdRaw, execRdRaw]
  cases sensorRegAt off with
  | none => rfl
  | some r => exact congrArg Host.Outcome.next (readResult_withError s e b r zext64)

theorem exec_reset_withError : exec .reset (withError s e b) = exec .reset s := by
  cases ha : writeOk (s.answer (writeRequest 0x00#8 resetWord)) with
  | false => exact (exec_reset_fail (s := withError s e b) ha).trans (exec_reset_fail ha).symm
  | true => exact (exec_reset_ok (s := withError s e b) ha).trans (exec_reset_ok ha).symm

theorem exec_ping_withError : exec .ping (withError s e b) = exec .ping s := by
  cases ha : readValue (s.answer (readRequest 0xFF#8)) with
  | none => exact (exec_ping_fail (s := withError s e b) ha).trans (exec_ping_fail ha).symm
  | some v => exact (exec_ping_value (s := withError s e b) ha).trans (exec_ping_value ha).symm

/-- Every command ends in the same state whatever ERR and RES_VALID held: it writes both and reads neither. -/
theorem exec_withError (i : Instr) : exec i (withError s e b) = exec i s := by
  cases i with
  | cfgPack | calDerive | decBus | decShunt | decCurrent | decPower => rfl
  | cfgApply => exact congrArg Host.Outcome.next (applyConfig_withError s e b _)
  | calibrate => exact exec_calibrate_withError s e b
  | rdBus | rdShunt =>
    exact congrArg (Host.Outcome.next ∘ s.whenConfigured) (readResult_withError s e b _ _)
  | rdCurrent | rdPower =>
    exact congrArg (Host.Outcome.next ∘ s.whenCalibrated) (readResult_withError s e b _ _)
  | rdRaw off => exact exec_rdRaw_withError s e b off
  | reset => exact exec_reset_withError s e b
  | ping => exact exec_ping_withError s e b

end

/-- Settles O49: a word that does not decode raises its error from any state, and a command writes ERR and RES_VALID
whatever they held. -/
theorem errorsDoNotAffectTheNextCommand : Obligations.ErrorsDoNotAffectTheNextCommand := by
  intro s e b hv hd
  change step (withError s e b) = step s ∧ _
  cases hw : decode s.cmd with
  | error r =>
    rw [step_of_decode_error hv hd hw]
    exact ⟨step_of_decode_error (s := withError s e b) hv hd hw, _, rfl⟩
  | ok i =>
    have ht : s.takesCommand = true := by simp [State.takesCommand, hv, hd]
    obtain ⟨t, hexec, -⟩ := exec_ends i s
    rw [step_of_command ht hw hexec]
    exact ⟨step_of_command (s := withError s e b) ht hw ((exec_withError s e b i).trans hexec), _, rfl⟩

end Sys2Proof.Proofs
end

section
/-! PROOFS. Block reset (70_reset_and_hazards.md): what it leaves, the one command that sends the reset word, and the
one command that makes STATE CALIBRATED. -/

namespace Sys2Proof.Proofs

open Sys2Proof.Machine

/-! ## The values after a block reset (70_reset_and_hazards.md R240) -/

theorem takesCommand_eq_false_iff {s : State} : s.takesCommand = false ↔ s.cmdValid = false ∨ s.done = true := by
  simp only [State.takesCommand, Bool.and_eq_false_iff, Bool.not_eq_false']

/-- Between commands the host's block reset is the whole step: DONE is 0 already, so it has nothing to settle. -/
theorem step_of_blockReset {s : State} {rest : List HostAction} (hb : s.cmdValid = false ∨ s.done = true)
    (hq : s.hostActions = .blockReset :: rest) :
    step s = .next (State.blockReset { s with hostActions := rest }) := by
  rw [step_of_host_turn (takesCommand_eq_false_iff.2 hb), State.hostTurn, hq]
  rfl

/-- Settles O9: the registers of the reset state and of the state that `step_of_blockReset` gives. -/
theorem blockResetSetsEveryRegister : Obligations.BlockResetSetsEveryRegister :=
  ⟨⟨rfl, rfl, rfl, rfl, rfl, rfl⟩,
    fun _ _ hb hq => ⟨_, step_of_blockReset hb hq, rfl, rfl, rfl, rfl, rfl, rfl⟩⟩

/-! ## The command that sends the reset word (70_reset_and_hazards.md R241) -/

/-- The bytes of a write determine its value. -/
theorem value_eq_of_writeRequest_eq {off off' : Byte} {v v' : Half} (h : writeRequest off v = writeRequest off' v') :
    v = v' := by
  simp only [writeRequest, BusRequest.write.injEq, List.cons.injEq] at h
  obtain ⟨-, -, hhigh, hlow, -⟩ := h
  have hhigh := congrArg BitVec.toNat hhigh
  have hlow := congrArg BitVec.toNat hlow
  simp only [extractLsb'_toNat_eq_div_mod] at hhigh hlow
  apply BitVec.eq_of_toNat_eq
  omega

/-- A packed word has at most 12 bits, and the reset word has bit 15 (40_config_packer.md R103). -/
theorem resetWord_ne_packConfig (a b v m : Code) : resetWord ≠ packConfig a b v m := by
  intro h
  have hsum : 0x8000 = a.toNat * 2 ^ 9 + b.toNat * 2 ^ 6 + v.toNat * 2 ^ 3 + m.toNat :=
    (congrArg BitVec.toNat h).trans (packConfig_toNat a b v m)
  omega

theorem eq_reset_of_resetWord_mem {i : Instr} {s : State} (h : writeRequest 0x00#8 resetWord ∈ requestsOf s i) :
    i = .reset := by
  cases i with
  | reset => rfl
  | cfgApply a b v m =>
    have hv := value_eq_of_writeRequest_eq (List.mem_singleton.1 h)
    exact absurd hv (resetWord_ne_packConfig a b v m)
  | _ => simp [requestsOf, writeRequest, readRequest] at h

/-- Every request a command makes is one its rule lists (20_memory.md R57). -/
theorem request_mem_requestsOf {i : Instr} {s t : State} {new : List BusTransaction} {tr : BusTransaction}
    (h : exec i s = .next t) (hlog : t.busLog = s.busLog ++ new) (htr : tr ∈ new) : tr.request ∈ requestsOf s i := by
  obtain ⟨_, ⟨made, hmade, rfl, -⟩, hpart, -⟩ := makesAsListed_of_ends (ends_of_exec h)
  obtain rfl : new = made := List.append_cancel_left (hlog.symm.trans hmade)
  exact hpart.subset (List.mem_map_of_mem htr)

/-! ## The step that makes STATE CALIBRATED (70_reset_and_hazards.md R241) -/

theorem hostAct_facade (s : State) (a : HostAction) :
    (s.hostAct a).facade = s.facade ∨ (s.hostAct a).facade = .uninit := by
  cases a with
  | present | withdraw => exact .inl rfl
  | blockReset => exact .inr rfl

/-- A step without a command leaves STATE or resets it. -/
theorem hostTurn_facade (s : State) : s.hostTurn.facade = s.facade ∨ s.hostTurn.facade = .uninit := by
  unfold State.hostTurn
  split
  next => exact .inl rfl
  next a rest _ => exact hostAct_facade { s with hostActions := rest } a

theorem takes_calibrate_of_step {s t : State} (h : step s = .next t) (hs : s.facade ≠ .calibrated)
    (ht : t.facade = .calibrated) : s.Takes .calibrate := by
  cases hc : s.takesCommand with
  | false =>
    rw [step_of_host_turn hc] at h
    cases h
    rcases hostTurn_facade s with hf | hf
    · exact absurd (hf.symm.trans ht) hs
    · exact absurd (hf.symm.trans ht) nofun
  | true =>
    cases hd : decode s.commandWord with
    | error e =>
      rw [step_of_illegal hc hd] at h
      cases h
      exact absurd ht hs
    | ok i =>
      obtain ⟨u, hu, -⟩ := exec_ends i s
      rw [step_of_command hc hd hu] at h
      cases h
      obtain ⟨hvalid, -⟩ := cacheValidityChangesOnlyAsStated i s u hu
      obtain ⟨rfl, -⟩ := hvalid hs ht
      exact ⟨hc, hd⟩

/-- Settles O10: the state after a block reset, the reset word as one of the listed requests of RESET alone, and
`takes_calibrate_of_step`. -/
theorem blockResetMakesNoTransaction : Obligations.BlockResetMakesNoTransaction := by
  refine ⟨fun s t rest hb hq h => ?_, fun i s t new tr h hlog htr hword => ?_, fun _ _ => takes_calibrate_of_step⟩
  · rw [step_of_blockReset hb hq] at h
    cases h
    exact ⟨rfl, rfl, rfl⟩
  · have hmem := request_mem_requestsOf h hlog htr
    rw [hword] at hmem
    exact eq_reset_of_resetWord_mem hmem

end Sys2Proof.Proofs
end

section
/-! PROOFS. The round trip of the encoding (30_encoding.md): a well-formed command is decoded from its word, and a
decoded command is encoded as the word it was read from. -/

namespace Sys2Proof.Proofs

open Sys2Proof.Machine

/-! ## The operand fields of an encoded word (30_encoding.md R71) -/

section
variable (op : BitVec 4) (a b v m : Code)

theorem avgField_commandWord : avgField (commandWord op (cfgImm a b v m)) = a := by
  rw [avgField, extractLsb'_commandWord _ _ _ _ (by decide), avgField_cfgImm]

theorem vbusctField_commandWord : vbusctField (commandWord op (cfgImm a b v m)) = b := by
  rw [vbusctField, extractLsb'_commandWord _ _ _ _ (by decide), vbusctField_cfgImm]

theorem vshctField_commandWord : vshctField (commandWord op (cfgImm a b v m)) = v := by
  rw [vshctField, extractLsb'_commandWord _ _ _ _ (by decide), vshctField_cfgImm]

theorem modeField_commandWord : modeField (commandWord op (cfgImm a b v m)) = m := by
  rw [modeField, extractLsb'_commandWord _ _ _ _ (by decide), modeField_cfgImm]

theorem offField_commandWord (off : Byte) : offField (commandWord op (regImm off)) = off := by
  rw [offField, extractLsb'_commandWord _ _ _ _ (by decide), offField_regImm]

end

/-- Settles O2: the encoded word stands in its row of the opcode map (`Laws.EncodeRow`), and its fields are the
operands it was encoded from; a command without operands is one fixed word. -/
theorem decodeOfEncodeIsTheCommand : Obligations.DecodeOfEncodeIsTheCommand := by
  intro i hwf
  cases i with
  | cfgPack a b v m =>
    exact (decode_eq_cfgPack_iff _ a b v m).2 ⟨Laws.EncodeRow.cfgPack a b v m, (avgField_commandWord _ a b v m).symm,
      (vbusctField_commandWord _ a b v m).symm, (vshctField_commandWord _ a b v m).symm,
      (modeField_commandWord _ a b v m).symm⟩
  | cfgApply a b v m =>
    exact (decode_eq_cfgApply_iff _ a b v m).2 ⟨Laws.EncodeRow.cfgApply a b v m, (avgField_commandWord _ a b v m).symm,
      (vbusctField_commandWord _ a b v m).symm, (vshctField_commandWord _ a b v m).symm,
      (modeField_commandWord _ a b v m).symm⟩
  | decBus raw =>
    exact (decode_eq_decBus_iff _ raw).2 ⟨Laws.EncodeRow.decBus raw, (immField_commandWord _ raw).symm⟩
  | decShunt raw =>
    exact (decode_eq_decShunt_iff _ raw).2 ⟨Laws.EncodeRow.decShunt raw, (immField_commandWord _ raw).symm⟩
  | decCurrent raw =>
    exact (decode_eq_decCurrent_iff _ raw).2 ⟨Laws.EncodeRow.decCurrent raw, (immField_commandWord _ raw).symm⟩
  | decPower raw =>
    exact (decode_eq_decPower_iff _ raw).2 ⟨Laws.EncodeRow.decPower raw, (immField_commandWord _ raw).symm⟩
  | rdRaw off =>
    exact (decode_eq_rdRaw_iff _ off).2
      ⟨Laws.EncodeRow.rdRaw off, (offField_commandWord _ off).symm, (offsetInMap_iff_mem off).1 hwf⟩
  | calDerive | calibrate | rdBus | rdShunt | rdCurrent | rdPower | reset | ping => rfl

/-! ## A word from its fields (30_encoding.md R70, R71) -/

theorem commandWord_fields {w : Word} (hrsv : rsvField w = 0#12) : commandWord (opField w) (immField w) = w := by
  apply BitVec.eq_of_getLsbD_eq
  intro i hi
  rw [getLsbD_commandWord _ _ i hi]
  by_cases h16 : i < 16
  · simp [immField, h16, show ¬ 28 ≤ i by omega]
  · by_cases h28 : i < 28
    · simp [getLsbD_of_field_eq (start := 16) hrsv (i := i) (by omega) (by omega), show ¬ 28 ≤ i by omega,
        BitVec.getLsbD_of_ge (immField w) i (by omega)]
    · simp [opField, BitVec.getLsbD_of_ge (immField w) i (by omega), show 28 ≤ i by omega, show i - 28 < 4 by omega]

theorem cfgImm_fields {w : Word} (hz : z4Field w = 0#4) :
    cfgImm (avgField w) (vbusctField w) (vshctField w) (modeField w) = immField w := by
  have hz := congrArg BitVec.toNat hz
  apply BitVec.eq_of_toNat_eq
  rw [← packConfig_eq_cfgImm, packConfig_configFields_toNat]
  simp only [z4Field, immField, extractLsb'_toNat_eq_div_mod, BitVec.toNat_ofNat] at hz ⊢
  omega

theorem regImm_field {w : Word} (hz : z8Field w = 0#8) : regImm (offField w) = immField w := by
  have hz := congrArg BitVec.toNat hz
  apply BitVec.eq_of_toNat_eq
  simp only [regImm, z8Field, offField, immField, BitVec.truncate_eq_setWidth, BitVec.toNat_setWidth,
    extractLsb'_toNat_eq_div_mod, BitVec.toNat_ofNat] at hz ⊢
  omega

/-- A word of the row of OP is the encoding of `i` when `i` encodes to OP and the word's IMM. -/
theorem encode_eq_of_row {op : BitVec 4} {i : Instr} {w : Word} (hm : w &&& (rowOf op).2 = (rowOf op).1)
    (himm : (formatOf op).ZeroFieldOk w → encode i = commandWord op (immField w)) : encode i = w := by
  obtain ⟨rfl, hrsv, hz⟩ := (and_rowOf_eq_iff w op).1 hm
  rw [himm hz, commandWord_fields hrsv]

/-- The mask of a command without operands keeps the whole word; every other word is put together from its fields. -/
theorem encode_of_decode {w : Word} {i : Instr} (h : decode w = .ok i) : encode i = w := by
  have hm := decode_matches_opcodeRow h
  cases i with
  | cfgPack a b v m =>
    obtain ⟨-, rfl, rfl, rfl, rfl⟩ := (decode_eq_cfgPack_iff w a b v m).1 h
    exact encode_eq_of_row (op := 0x1#4) hm fun hz => congrArg (commandWord _) (cfgImm_fields hz)
  | cfgApply a b v m =>
    obtain ⟨-, rfl, rfl, rfl, rfl⟩ := (decode_eq_cfgApply_iff w a b v m).1 h
    exact encode_eq_of_row (op := 0x2#4) hm fun hz => congrArg (commandWord _) (cfgImm_fields hz)
  | decBus raw =>
    obtain ⟨-, rfl⟩ := (decode_eq_decBus_iff w raw).1 h
    exact encode_eq_of_row (op := 0x5#4) hm fun _ => rfl
  | decShunt raw =>
    obtain ⟨-, rfl⟩ := (decode_eq_decShunt_iff w raw).1 h
    exact encode_eq_of_row (op := 0x6#4) hm fun _ => rfl
  | decCurrent raw =>
    obtain ⟨-, rfl⟩ := (decode_eq_decCurrent_iff w raw).1 h
    exact encode_eq_of_row (op := 0x7#4) hm fun _ => rfl
  | decPower raw =>
    obtain ⟨-, rfl⟩ := (decode_eq_decPower_iff w raw).1 h
    exact encode_eq_of_row (op := 0x8#4) hm fun _ => rfl
  | rdRaw off =>
    obtain ⟨-, rfl, -⟩ := (decode_eq_rdRaw_iff w off).1 h
    exact encode_eq_of_row (op := 0xD#4) hm fun hz => congrArg (commandWord _) (regImm_field hz)
  | calDerive | calibrate | rdBus | rdShunt | rdCurrent | rdPower | reset | ping =>
    exact hm.symm.trans BitVec.and_allOnes

/-- Settles O3: the decoder gives well-formed terms alone, and `encode_of_decode` puts the fields back in place. -/
theorem encodeOfDecodeIsTheWord : Obligations.EncodeOfDecodeIsTheWord :=
  fun _ _ h => ⟨wellFormed_of_decode h, encode_of_decode h⟩

/-- Settles O1: the decoder evaluated on fifteen fixed words. -/
theorem wordsWrittenOutFromTheSpecDecode : Obligations.WordsWrittenOutFromTheSpecDecode := by
  unfold Obligations.WordsWrittenOutFromTheSpecDecode
  decide

end Sys2Proof.Proofs
end

section
/-! PROOFS. The step (10_state.md, section 5): the three things a step can be, the ports and DONE, and that every step
answers a next state. -/

namespace Sys2Proof.Proofs

open Sys2Proof.Machine

/-! ## What a step can be (10_state.md R37) -/

theorem takesCommand_eq_true {s : State} (hv : s.cmdValid = true) (hd : s.done = false) : s.takesCommand = true := by
  rw [State.takesCommand, hv, hd]
  rfl

/-- What a step from `s` to its next state can be: an illegal word, a command run whole, or the host's turn. -/
inductive StepIs (s : State) : State → Prop where
  | illegal {e : DecodeReject} (ht : s.takesCommand = true) (hw : decode s.commandWord = .error e) :
      StepIs s s.illegal.raiseDone
  | command {i : Instr} {u : State} (ht : s.takesCommand = true) (hw : decode s.commandWord = .ok i)
      (hu : exec i s = .next u) : StepIs s u.raiseDone
  | hostTurn (ht : s.takesCommand = false) : StepIs s s.hostTurn

theorem step_is (s : State) : ∃ t, step s = .next t ∧ StepIs s t := by
  cases ht : s.takesCommand with
  | false => exact ⟨_, step_of_host_turn ht, .hostTurn ht⟩
  | true =>
    cases hw : decode s.commandWord with
    | error e => exact ⟨_, step_of_illegal ht hw, .illegal ht hw⟩
    | ok i =>
      obtain ⟨u, hu, -⟩ := exec_ends i s
      exact ⟨_, step_of_command ht hw hu, .command ht hw hu⟩

/-- The same, for a step known to have answered. -/
theorem stepIs_of_step {s t : State} (h : step s = .next t) : StepIs s t := by
  obtain ⟨u, hu, his⟩ := step_is s
  rw [hu] at h
  cases h
  exact his

/-- Settles O6: `exec_ends` gives the next state of the command, and `step_of_command` raises DONE in it. -/
theorem stepRunsTheDecodedCommand : Obligations.StepRunsTheDecodedCommand := by
  intro s i hv hd hw
  obtain ⟨t, ht, -⟩ := exec_ends i s
  exact ⟨t, ht, step_of_command (takesCommand_eq_true hv hd) hw ht⟩

/-- Settles O8: `exec_ends` for a command and `step_is` for a step. -/
theorem everyStepAnswersANextState : Obligations.EveryStepAnswersANextState :=
  ⟨fun i s => (exec_ends i s).imp fun _ => And.left, fun s => (step_is s).imp fun _ => And.left⟩

/-! ## The ports, DONE and the host's list (10_state.md R33, R37) -/

/-- The input ports of `t`, its DONE and the host actions to come are those of `s`. -/
structure KeepsHandshake (s t : State) : Prop where
  cmd : t.cmd = s.cmd
  opa : t.opa = s.opa
  opb : t.opb = s.opb
  cmdValid : t.cmdValid = s.cmdValid
  done : t.done = s.done
  hostActions : t.hostActions = s.hostActions

/-- No command drives an input port, raises DONE itself or acts for the host. -/
theorem keepsHandshake_of_ends {i : Instr} {s t : State} (h : Ends i s t) : KeepsHandshake s t := by
  cases h with
  | calReadFail d u hd hu | calMismatch d u v hd hu | calCommit d u x hd hu =>
    subst hu
    exact ⟨rfl, rfl, rfl, rfl, rfl, rfl⟩
  | _ => exact ⟨rfl, rfl, rfl, rfl, rfl, rfl⟩

theorem keepsHandshake_of_taken {s t : State} (h : step s = .next t) (ht : s.takesCommand = true) :
    ∃ u, KeepsHandshake s u ∧ t = u.raiseDone := by
  cases stepIs_of_step h with
  | illegal => exact ⟨s.illegal, ⟨rfl, rfl, rfl, rfl, rfl, rfl⟩, rfl⟩
  | command _ _ hu => exact ⟨_, keepsHandshake_of_ends (ends_of_exec hu), rfl⟩
  | hostTurn hf => exact absurd (ht.symm.trans hf) nofun

/-- DONE needs no settling where the handshake holds. -/
theorem settleDone_of_handshakeOk {s : State} (h : s.HandshakeOk) : s.settleDone = s := by
  have hd : (s.done && s.cmdValid) = s.done := Bool.and_eq_left_iff_imp.2 h
  rw [State.settleDone, hd]

section
variable {s : State} (hb : s.cmdValid = false ∨ s.done = true)
include hb

theorem step_of_no_action (hq : s.hostActions = []) : step s = .next s.settleDone := by
  rw [step_of_host_turn (takesCommand_eq_false_iff.2 hb), State.hostTurn, hq]

theorem step_of_action {a : HostAction} {rest : List HostAction} (hq : s.hostActions = a :: rest) :
    step s = .next (State.hostAct { s with hostActions := rest } a).settleDone := by
  rw [step_of_host_turn (takesCommand_eq_false_iff.2 hb), State.hostTurn, hq]

end

/-- Settles O7: a command taken keeps the handshake but for DONE, and each action of the host is a step by itself. -/
theorem handshakeTakesOneCommandAtATime : Obligations.HandshakeTakesOneCommandAtATime := by
  refine ⟨fun s hv hd => ?_, fun s hv hd => ⟨fun hq => ?_, fun rest hq => ?_, fun cmd opa opb rest hq => ?_⟩,
    fun s hv hd => ⟨fun hq => ?_, fun rest hq => ?_, fun cmd opa opb rest hq => ?_⟩⟩
  · obtain ⟨t, ht, -⟩ := step_is s
    obtain ⟨u, hu, rfl⟩ := keepsHandshake_of_taken ht (takesCommand_eq_true hv hd)
    exact ⟨_, ht, rfl, hu.cmdValid.trans hv, hu.cmd, hu.opa, hu.opb, hu.hostActions⟩
  · rw [step_of_no_action (.inr hd) hq, settleDone_of_handshakeOk fun _ => hv]
  · rw [step_of_action (.inr hd) hq]
    simp [State.hostAct, State.settleDone]
  · rw [step_of_action (.inr hd) hq]
    simp [State.hostAct, State.settleDone, hv]
  · rw [step_of_no_action (.inl hv) hq, settleDone_of_handshakeOk fun h => absurd (hd.symm.trans h) nofun]
  · rw [step_of_action (.inl hv) hq]
    simp [State.hostAct, State.settleDone, hv, hd]
  · rw [step_of_action (.inl hv) hq]
    simp [State.hostAct, State.settleDone]

end Sys2Proof.Proofs
end

section
/-! PROOFS. Noninterference (10_state.md, sections 5 and 6): two runs of one command side by side, from states that a
relation ties together. A relation that every operation keeps is kept by every command; the operand ports and the
unspecified values are two such relations. -/

namespace Sys2Proof.Proofs

open Sys2Proof.Machine

/-! ## A relation that every operation keeps -/

/-- States in `R` look the same to the gates, the bus and the decoder of samples, and every operation of a command
leaves them in `R`. Nothing is said here of the operand ports. -/
structure KeptByOps (R : State → State → Prop) : Prop where
  facade {s t : State} : R s t → t.facade = s.facade
  answer {s t : State} : R s t → ∀ q, t.answer q = s.answer q
  currentLsb {s t : State} : R s t → s.facade = .calibrated → t.currentLsb = s.currentLsb
  powerLsb {s t : State} : R s t → s.facade = .calibrated → t.powerLsb = s.powerLsb
  succeed {s t : State} : R s t → ∀ v, R (s.succeed v) (t.succeed v)
  raise {s t : State} : R s t → ∀ e, R (s.raise e) (t.raise e)
  pingFail {s t : State} : R s t →
    R { s.succeed 0#64 with err := .transport } { t.succeed 0#64 with err := .transport }
  transact {s t : State} : R s t → ∀ q, R (s.transact q) (t.transact q)
  setFlags {s t : State} : R s t → ∀ z o, R (s.setFlags z o) (t.setFlags z o)
  setFacade {s t : State} : R s t → ∀ f, (f = .calibrated → s.facade = .calibrated) → R (s.setFacade f) (t.setFacade f)
  commit {s t : State} : R s t → ∀ k p c, R (s.commit k p c) (t.commit k p c)

namespace KeptByOps

variable {R : State → State → Prop} (hR : KeptByOps R) {s t : State} (h : R s t)
include hR h

theorem whenConfigured {s' t' : State} (h' : R s' t') : R (s.whenConfigured s') (t.whenConfigured t') := by
  by_cases hf : s.facade = .uninit
  · rw [State.whenConfigured_refuses hf, State.whenConfigured_refuses ((hR.facade h).trans hf)]
    exact hR.raise h _
  · rwa [State.whenConfigured_passes hf, State.whenConfigured_passes ((hR.facade h).trans_ne hf)]

theorem whenCalibrated {s' t' : State} (h' : s.facade = .calibrated → R s' t') :
    R (s.whenCalibrated s') (t.whenCalibrated t') := by
  by_cases hf : s.facade = .calibrated
  · rw [State.whenCalibrated_passes hf, State.whenCalibrated_passes ((hR.facade h).trans hf)]
    exact h' hf
  · rw [State.whenCalibrated_refuses hf, State.whenCalibrated_refuses ((hR.facade h).trans_ne hf)]
    exact hR.raise h _

theorem readResult (r : SensorReg) (f : Half → Result) : R (s.readResult r f) (t.readResult r f) := by
  rcases State.readResult_cases (s := s) r f with ⟨ha, he⟩ | ⟨v, ha, he⟩ <;> rw [← hR.answer h] at ha
  · rw [he, State.readResult_fail f ha]
    exact hR.raise (hR.transact h _) _
  · rw [he, State.readResult_value f ha]
    exact hR.succeed (hR.transact h _) _

theorem applyConfig (w : Half) : R (s.applyConfig w) (t.applyConfig w) := by
  rcases State.applyConfig_cases (s := s) w with ⟨ha, he⟩ | ⟨ha, he⟩ <;> rw [← hR.answer h] at ha
  · rw [he, State.applyConfig_fail ha]
    exact hR.raise (hR.transact h _) _
  · rw [he, State.applyConfig_ok ha, hR.facade h]
    exact hR.succeed (hR.setFacade (hR.transact h _) _ (facadeConfigured_calibrated_iff s.facade).1) _

theorem invalidate : R s.invalidate t.invalidate := by
  rw [State.invalidate, State.invalidate, hR.facade h]
  exact hR.setFacade h _ fun hf => absurd hf (facadeInvalidated_ne_calibrated s.facade)

theorem verifyCal (d : CalParams) : R (s.verifyCal d) (t.verifyCal d) := by
  rcases State.verifyCal_cases (s := s) d with ⟨ha, he⟩ | ⟨v, ha, hv, he⟩ | ⟨ha, he⟩ <;> rw [← hR.answer h] at ha
  · rw [he, State.verifyCal_fail ha]
    exact hR.raise (hR.invalidate (hR.transact h _)) _
  · rw [he, State.verifyCal_mismatch ha hv]
    exact hR.raise (hR.invalidate (hR.transact h _)) _
  · rw [he, State.verifyCal_match ha]
    exact hR.succeed (hR.commit (hR.transact h _) _ _ _) _

theorem writeCal (d : CalParams) : R (s.writeCal d) (t.writeCal d) := by
  rcases State.writeCal_cases (s := s) d with ⟨ha, he⟩ | ⟨ha, he⟩ <;> rw [← hR.answer h] at ha
  · rw [he, State.writeCal_fail ha]
    exact hR.raise (hR.invalidate (hR.transact h _)) _
  · rw [he, State.writeCal_ok ha]
    exact hR.verifyCal (hR.transact h _) d

theorem exec_rdRaw (off : Byte) :
    ∃ s' t', exec (.rdRaw off) s = .next s' ∧ exec (.rdRaw off) t = .next t' ∧ R s' t' := by
  refine ⟨_, _, rfl, rfl, ?_⟩
  cases sensorRegAt off with
  | none => exact hR.raise h .illegalCmd
  | some r => exact hR.readResult h r zext64

theorem exec_reset : ∃ s' t', exec .reset s = .next s' ∧ exec .reset t = .next t' ∧ R s' t' := by
  have huninit := hR.setFacade (hR.transact h (writeRequest 0x00#8 resetWord)) .uninit nofun
  have ha := hR.answer h (writeRequest 0x00#8 resetWord)
  cases hw : writeOk (s.answer (writeRequest 0x00#8 resetWord)) with
  | false => exact ⟨_, _, exec_reset_fail hw, exec_reset_fail (ha ▸ hw), hR.raise huninit _⟩
  | true => exact ⟨_, _, exec_reset_ok hw, exec_reset_ok (ha ▸ hw), hR.succeed huninit _⟩

theorem exec_ping : ∃ s' t', exec .ping s = .next s' ∧ exec .ping t = .next t' ∧ R s' t' := by
  have hread := hR.transact h (readRequest 0xFF#8)
  have ha := hR.answer h (readRequest 0xFF#8)
  cases hv : readValue (s.answer (readRequest 0xFF#8)) with
  | none => exact ⟨_, _, exec_ping_fail hv, exec_ping_fail (ha ▸ hv), hR.pingFail hread⟩
  | some v => exact ⟨_, _, exec_ping_value hv, exec_ping_value (ha ▸ hv), hR.succeed hread _⟩

/-- A command that does not read the operand ports. -/
theorem exec_of_ne (i : Instr) (hd : i ≠ .calDerive) (hc : i ≠ .calibrate) :
    ∃ s' t', exec i s = .next s' ∧ exec i t = .next t' ∧ R s' t' := by
  cases i with
  | cfgPack | decBus | decShunt => exact ⟨_, _, rfl, rfl, hR.succeed h _⟩
  | cfgApply => exact ⟨_, _, rfl, rfl, hR.applyConfig h _⟩
  | calDerive => exact absurd rfl hd
  | calibrate => exact absurd rfl hc
  | decCurrent =>
    exact ⟨_, _, rfl, rfl, hR.whenCalibrated h fun hf => hR.currentLsb h hf ▸ hR.succeed h _⟩
  | decPower => exact ⟨_, _, rfl, rfl, hR.whenCalibrated h fun hf => hR.powerLsb h hf ▸ hR.succeed h _⟩
  | rdBus | rdShunt => exact ⟨_, _, rfl, rfl, hR.whenConfigured h (hR.readResult h _ _)⟩
  | rdCurrent =>
    exact ⟨_, _, rfl, rfl, hR.whenCalibrated h fun hf => hR.currentLsb h hf ▸ hR.readResult h _ _⟩
  | rdPower =>
    exact ⟨_, _, rfl, rfl, hR.whenCalibrated h fun hf => hR.powerLsb h hf ▸ hR.readResult h _ _⟩
  | rdRaw off => exact hR.exec_rdRaw h off
  | reset => exact hR.exec_reset h
  | ping => exact hR.exec_ping h

/-- The precondition of the calibration commands and its refusal, where the operand ports agree. -/
theorem calOperandZero (ho : t.calOperandZero = s.calOperandZero) {s' t' : State} (h' : R s' t') :
    R (if s.calOperandZero then s.raise .calPrecondition else s')
      (if t.calOperandZero then t.raise .calPrecondition else t') := by
  rw [ho]
  split
  · exact hR.raise h _
  · exact h'

/-- Any command, from states whose operand ports agree. -/
theorem exec_of_operands (i : Instr) (ho : t.calOperandZero = s.calOperandZero) (hp : t.derived = s.derived) :
    ∃ s' t', exec i s = .next s' ∧ exec i t = .next t' ∧ R s' t' := by
  by_cases hd : i = .calDerive
  · subst hd
    refine ⟨_, _, rfl, rfl, hR.calOperandZero h ho ?_⟩
    rw [hp]
    exact hR.succeed (hR.setFlags h _ _) _
  by_cases hc : i = .calibrate
  · subst hc
    refine ⟨_, _, rfl, rfl, hR.whenConfigured h (hR.calOperandZero h ho ?_)⟩
    rw [hp]
    exact hR.writeCal (hR.setFlags h _ _) _
  exact hR.exec_of_ne h i hd hc

end KeptByOps

/-! ## The operand ports (10_state.md, section 5) -/

/-- `s` with other values on the ports OPA and OPB. -/
def withOperands (s : State) (a b : Word) : State := { s with opa := a, opb := b }

/-- No operation of a command but the derivation reads the operand ports, and none writes them. -/
theorem withOperands_keptByOps (a b : Word) : KeptByOps fun s t => t = withOperands s a b where
  facade := by rintro s _ rfl; rfl
  answer := by rintro s _ rfl _; rfl
  currentLsb := by rintro s _ rfl _; rfl
  powerLsb := by rintro s _ rfl _; rfl
  succeed := by rintro s _ rfl _; rfl
  raise := by rintro s _ rfl _; rfl
  pingFail := by rintro s _ rfl; rfl
  transact := by rintro s _ rfl _; rfl
  setFlags := by rintro s _ rfl _ _; rfl
  setFacade := by rintro s _ rfl _ _; rfl
  commit := by rintro s _ rfl _ _ _; rfl

/-- Settles O50: states apart in OPA and OPB alone stay so under every command that does not derive. -/
theorem otherCommandsIgnoreTheOperandPorts : Obligations.OtherCommandsIgnoreTheOperandPorts := by
  intro i s t a b hd hc h
  obtain ⟨s', t', hs', ht', rfl⟩ := (withOperands_keptByOps a b).exec_of_ne (s := s) rfl i hd hc
  rw [h] at hs'
  cases hs'
  exact ht'

/-! ## The unspecified values (10_state.md, section 6) -/

theorem sameButUnspecified_keptByOps : KeptByOps State.SameButUnspecified where
  facade h := h.facade_eq
  answer h := h.answer_eq
  currentLsb h hf := congrArg BitVec.toNat (h.cache hf).1
  powerLsb h hf := congrArg BitVec.toNat (h.cache hf).2.1
  succeed h := h.succeed
  raise h := h.raise
  pingFail h := ⟨by rw [h.rest]; rfl, h.cache, fun _ => rfl⟩
  transact h := h.transact
  setFlags h := h.setFlags
  setFacade h _ hf := h.setFacade hf
  commit h := h.commit

section
variable {s t : State} (h : s.SameButUnspecified t)
include h

theorem hostAct_sameButUnspecified (a : HostAction) : (s.hostAct a).SameButUnspecified (t.hostAct a) := by
  cases a with
  | present cmd opa opb => exact ⟨by rw [h.rest]; rfl, h.cache, h.result⟩
  | withdraw => exact ⟨by rw [h.rest]; rfl, h.cache, h.result⟩
  | blockReset => exact h.blockReset

theorem settleDone_sameButUnspecified : s.settleDone.SameButUnspecified t.settleDone :=
  ⟨by rw [h.rest]; rfl, h.cache, h.result⟩

theorem hostTurn_sameButUnspecified : s.hostTurn.SameButUnspecified t.hostTurn := by
  rw [State.hostTurn, State.hostTurn, h.hostActions_eq]
  cases s.hostActions with
  | nil => exact settleDone_sameButUnspecified h
  | cons a rest =>
    have hrest : State.SameButUnspecified { s with hostActions := rest } { t with hostActions := rest } :=
      ⟨by rw [h.rest], h.cache, h.result⟩
    exact settleDone_sameButUnspecified (hostAct_sameButUnspecified hrest a)

end

/-- Settles O51: both states take the same step, and an illegal word, a command and the host's turn each keep the
relation. -/
theorem unspecifiedValuesNeverReachAnotherResult : Obligations.UnspecifiedValuesNeverReachAnotherResult := by
  intro s t s' h hstep
  have hword : t.commandWord = s.commandWord := h.cmd_eq
  cases stepIs_of_step hstep with
  | illegal ht hw =>
    exact ⟨_, step_of_illegal (h.takesCommand_eq.trans ht) (hword ▸ hw), (h.raise .illegalCmd).raiseDone⟩
  | command ht hw hu =>
    obtain ⟨u', t', hu', ht', hrel⟩ :=
      sameButUnspecified_keptByOps.exec_of_operands h _ h.calOperandZero_eq h.derived_eq
    rw [hu] at hu'
    cases hu'
    exact ⟨_, step_of_command (h.takesCommand_eq.trans ht) (hword ▸ hw) ht', hrel.raiseDone⟩
  | hostTurn ht => exact ⟨_, step_of_host_turn (h.takesCommand_eq.trans ht), hostTurn_sameButUnspecified h⟩

end Sys2Proof.Proofs
end

section
/-! PROOFS. The invariants (10_state.md, section 2; 20_memory.md, sections 1 and 2): the requests a command can make,
and that every step keeps the cache verified and the bus within the map. -/

namespace Sys2Proof.Proofs

open Sys2Proof.Machine

/-! ## The requests of a command (20_memory.md R51 to R54) -/

theorem read_permitted {off : Byte} (h : offsetInMap off = true) : (readRequest off).Permitted :=
  .inl ⟨off, (offsetInMap_iff_mem off).1 h, rfl⟩

/-- Bits 15:12 of a packed word are 0 (40_config_packer.md R103). -/
theorem packConfig_high_lt (a b v m : Code) : ((packConfig a b v m).extractLsb' 8 8).toNat < 16 := by
  rw [extractLsb'_toNat_eq_div_mod, packConfig_toNat]
  omega

theorem permitted_of_mem_requestsOf {i : Instr} {s : State} {q : BusRequest} (hwf : i.wellFormed = true)
    (h : q ∈ requestsOf s i) : q.Permitted := by
  cases i with
  | cfgApply a b v m =>
    obtain rfl := List.mem_singleton.1 h
    exact .inr (.inl ⟨_, _, .inl (packConfig_high_lt a b v m), rfl⟩)
  | calibrate =>
    obtain rfl | h := List.mem_cons.1 h
    · exact .inr (.inr ⟨_, _, rfl⟩)
    · obtain rfl := List.mem_singleton.1 h
      exact read_permitted rfl
  | rdBus | rdShunt | rdCurrent | rdPower | ping =>
    obtain rfl := List.mem_singleton.1 h
    exact read_permitted rfl
  | rdRaw off =>
    obtain rfl := List.mem_singleton.1 h
    exact read_permitted hwf
  | reset =>
    obtain rfl := List.mem_singleton.1 h
    exact .inr (.inl ⟨_, _, .inr ⟨rfl, rfl⟩, rfl⟩)
  | cfgPack | calDerive | decBus | decShunt | decCurrent | decPower => exact absurd h List.not_mem_nil

/-- The history grows by requests the command's rule lists (20_memory.md R57). -/
theorem busLog_of_exec {i : Instr} {s t : State} (h : exec i s = .next t) :
    ∃ new, t.busLog = s.busLog ++ new ∧ ∀ tr ∈ new, tr.request ∈ requestsOf s i := by
  obtain ⟨new, hlog, -⟩ := busOutcome_of_ends (ends_of_exec h)
  exact ⟨new, hlog, fun _ => request_mem_requestsOf h hlog⟩

theorem hostAct_busLog (s : State) (a : HostAction) : (s.hostAct a).busLog = s.busLog := by
  cases a <;> rfl

theorem hostTurn_busLog (s : State) : s.hostTurn.busLog = s.busLog := by
  unfold State.hostTurn
  split
  next => rfl
  next a rest _ => exact hostAct_busLog { s with hostActions := rest } a

/-- Settles O54: a command adds requests of its list, all of them permitted; no other step makes a transaction. -/
theorem everyStepKeepsTheBusWithinTheMap : Obligations.EveryStepKeepsTheBusWithinTheMap := by
  intro s t hok hstep
  cases stepIs_of_step hstep with
  | illegal => exact hok
  | command _ hw hu =>
    obtain ⟨new, hlog, hnew⟩ := busLog_of_exec hu
    rw [State.BusLogOk, State.raiseDone_busLog, hlog]
    intro tr htr
    obtain htr | htr := List.mem_append.1 htr
    · exact hok tr htr
    · exact permitted_of_mem_requestsOf (wellFormed_of_decode hw) (hnew tr htr)
  | hostTurn =>
    rw [State.BusLogOk, hostTurn_busLog]
    exact hok

/-! ## What a command does to the verified cache (10_state.md R26) -/

/-- A request after which a verified calibration still stands in the sensor: neither a write of Calibration nor the
reset word. -/
def KeepsCalibration (q : BusRequest) : Prop := q.writesTo 0x05#8 = false ∧ q ≠ writeRequest 0x00#8 0x8000#16

theorem read_keepsCalibration (off : Byte) : KeepsCalibration (readRequest off) := ⟨rfl, nofun⟩

theorem configWrite_keepsCalibration (a b v m : Code) :
    KeepsCalibration (writeRequest 0x00#8 (packConfig a b v m)) :=
  ⟨rfl, fun h => resetWord_ne_packConfig a b v m (value_eq_of_writeRequest_eq h).symm⟩

/-- Only CALIBRATE and RESET make other requests. -/
theorem keepsCalibration_of_mem_requestsOf {i : Instr} {s : State} {q : BusRequest} (hc : i ≠ .calibrate)
    (hr : i ≠ .reset) (h : q ∈ requestsOf s i) : KeepsCalibration q := by
  cases i with
  | cfgApply a b v m =>
    obtain rfl := List.mem_singleton.1 h
    exact configWrite_keepsCalibration a b v m
  | calibrate => exact absurd rfl hc
  | reset => exact absurd rfl hr
  | rdBus | rdShunt | rdCurrent | rdPower | rdRaw | ping =>
    obtain rfl := List.mem_singleton.1 h
    exact read_keepsCalibration _
  | cfgPack | calDerive | decBus | decShunt | decCurrent | decPower => exact absurd h List.not_mem_nil

/-- The cache and the history of `s` extended by harmless requests are those of `t`, which is CALIBRATED only if `s`
was. -/
structure KeepsVerified (s t : State) : Prop where
  facade : t.facade = .calibrated → s.facade = .calibrated
  cache : KeepsCache s t
  busLog : ∃ new, t.busLog = s.busLog ++ new ∧ ∀ tr ∈ new, KeepsCalibration tr.request

/-- What a command that ended in `t` did to the verified cache. -/
inductive VerifiedChange (s t : State) : Prop where
  | kept (h : KeepsVerified s t)
  | dropped (hf : t.facade ≠ .calibrated)
  /-- The write and the read-back of CALIBRATE end the history, and the cache is what it derived. -/
  | committed {written readBack : BusAnswer} (hopb : s.opb ≠ 0#32)
      (hlog : t.busLog = s.busLog ++ [⟨writeRequest 0x05#8 t.calVal, written⟩, ⟨readRequest 0x05#8, readBack⟩])
      (hw : writeOk written = true) (hr : readValue readBack = some t.calVal) (hk : t.curLsb = s.derived.k)
      (hp : t.pwrLsb = s.derived.p)

theorem keepsVerified_raise (s : State) (e : ErrKind) : KeepsVerified s (s.raise e) :=
  ⟨id, ⟨rfl, rfl, rfl⟩, [], (List.append_nil _).symm, nofun⟩

theorem verifiedChange_of_calibrate {s t : State} (h : Ends .calibrate s t) : VerifiedChange s t := by
  cases h with
  | notConfigured | notCalibrated | illegal | calPrecondition => exact .kept (keepsVerified_raise s _)
  | pure v hr | readFail off hr | readValue off v x hr => simp [requestsOf] at hr
  | derived _ hi | pingFail hi | pingValue _ _ hi | applyFail _ _ _ _ hi | applyOk _ _ _ _ _ hi | resetFail hi
  | resetOk _ hi => cases hi
  | calWriteFail | calReadFail | calMismatch => exact .dropped nofun
  | calCommit d u x hd hu _ _ _ hb hw hr =>
    subst hd hu
    exact .committed hb (List.append_assoc ..) hw hr rfl rfl

theorem verifiedChange_of_exec {i : Instr} {s t : State} (h : exec i s = .next t) : VerifiedChange s t := by
  have hends := ends_of_exec h
  by_cases hc : i = .calibrate
  · subst hc
    exact verifiedChange_of_calibrate hends
  by_cases hr : i = .reset
  · subst hr
    exact .dropped (by rw [facade_of_exec_reset h]; decide)
  cases validityChange_of_ends hends with
  | kept hf hcache =>
    obtain ⟨new, hlog, hnew⟩ := busLog_of_exec h
    exact .kept ⟨hf.1, hcache, new, hlog, fun tr htr => keepsCalibration_of_mem_requestsOf hc hr (hnew tr htr)⟩
  | dropped hf => exact .dropped hf
  | committed _ hi => exact absurd hi hc

/-! ## The invariant (10_state.md R26, R37) -/

/-- The part of the invariant that speaks of the cache. -/
def CacheOk (s : State) : Prop := s.CacheInRange ∧ s.CacheVerified

theorem KeepsVerified.cacheOk {s t : State} (h : KeepsVerified s t) (hs : CacheOk s) : CacheOk t := by
  obtain ⟨hk, hp, hc⟩ := h.cache
  refine ⟨fun hf => ?_, fun hf => ?_⟩
  · rw [hk, hp]
    exact hs.1 (h.facade hf)
  · obtain ⟨before, written, readBack, after, hlog, hw, hr, hafter⟩ := hs.2 (h.facade hf)
    obtain ⟨new, hnew, hkeeps⟩ := h.busLog
    rw [hc]
    refine ⟨before, written, readBack, after ++ new, ?_, hw, hr, fun tr htr => ?_⟩
    · rw [hnew, hlog, List.append_assoc]
      rfl
    · exact (List.mem_append.1 htr).elim (hafter tr) (hkeeps tr)

/-- The LSBs derived from a current other than 0 are in range (41_calibration.md R122, R123). -/
theorem derived_lsbs_inRange {s : State} (hopb : s.opb ≠ 0#32) :
    1 ≤ s.derived.k.toNat ∧ s.derived.k.toNat ≤ 1311 ∧ s.derived.p.toNat = 25 * s.derived.k.toNat := by
  have hpos : 1 ≤ s.opb.toNat := Nat.pos_of_ne_zero fun h => hopb (BitVec.eq_of_toNat_eq h)
  rw [s.derived_eq, deriveCal_k_toNat s.opb.isLt, deriveCal_p_toNat s.opb.isLt]
  exact ⟨currentLsbOf_pos hpos, currentLsbOf_le s.opb.isLt, rfl⟩

theorem VerifiedChange.cacheOk {s t : State} (h : VerifiedChange s t) (hs : CacheOk s) : CacheOk t := by
  cases h with
  | kept h => exact h.cacheOk hs
  | dropped hf => exact ⟨fun hc => absurd hc hf, fun hc => absurd hc hf⟩
  | committed hopb hlog hw hr hk hp =>
    refine ⟨fun _ => ?_, fun _ => ⟨s.busLog, _, _, [], hlog, hw, hr, nofun⟩⟩
    rw [hk, hp]
    exact derived_lsbs_inRange hopb

theorem hostAct_cacheOk {s : State} (h : CacheOk s) (a : HostAction) : CacheOk (s.hostAct a) := by
  cases a with
  | present | withdraw => exact h
  | blockReset => exact ⟨nofun, nofun⟩

theorem hostTurn_cacheOk {s : State} (h : CacheOk s) : CacheOk s.hostTurn := by
  unfold State.hostTurn
  split
  next => exact h
  next a rest _ => exact hostAct_cacheOk (s := { s with hostActions := rest }) h a

theorem cacheOk_of_step {s t : State} (hs : CacheOk s) (h : step s = .next t) : CacheOk t := by
  cases stepIs_of_step h with
  | illegal => exact hs
  | command _ _ hu => exact (verifiedChange_of_exec hu).cacheOk hs
  | hostTurn => exact hostTurn_cacheOk hs

theorem settleDone_handshakeOk (s : State) : s.settleDone.HandshakeOk := fun h => (Bool.and_eq_true_iff.1 h).2

/-- Every step leaves the handshake in order, whatever it was before (log entry 5). -/
theorem handshakeOk_of_step {s t : State} (h : step s = .next t) : t.HandshakeOk := by
  cases ht : s.takesCommand with
  | true =>
    obtain ⟨u, hu, rfl⟩ := keepsHandshake_of_taken h ht
    exact fun _ => hu.cmdValid.trans (Bool.and_eq_true_iff.1 ht).1
  | false =>
    rw [step_of_host_turn ht] at h
    cases h
    unfold State.hostTurn
    split <;> exact settleDone_handshakeOk _

/-- Settles O52: the cache by what a command does to it, the handshake by the step alone. -/
theorem everyStepKeepsTheCacheInvariant : Obligations.EveryStepKeepsTheCacheInvariant := by
  intro s t hs h
  obtain ⟨hrange, hverified⟩ := cacheOk_of_step ⟨hs.cacheInRange, hs.cacheVerified⟩ h
  exact ⟨hrange, hverified, handshakeOk_of_step h⟩

/-- Settles O53: the reset state is not CALIBRATED and DONE is 0 in it. -/
theorem resetMeetsTheCacheInvariant : Obligations.ResetMeetsTheCacheInvariant := ⟨nofun, nofun, nofun⟩

end Sys2Proof.Proofs
end

section
/-! PROOFS. How commands end (20_memory.md, section 2; 10_state.md, section 4): which answers are failures, that no
transaction follows a failed one, and the table of STATE. -/

namespace Sys2Proof.Proofs

open Sys2Proof.Machine

/-! ## Which answers fail (20_memory.md R56) -/

theorem writeOk_iff (a : BusAnswer) : writeOk a = true ↔ ∃ n bs, a = .transfer n bs ∧ 3 ≤ n := by
  cases a with
  | nack | absent => simp
  | transfer n bs => simp

theorem readValue_transfer_eq_none_iff (n : Nat) (bs : List Byte) :
    readValue (.transfer n bs) = none ↔ n < 1 ∨ bs.length < 2 := by
  match bs with
  | [] | [_] => simp
  | b0 :: b1 :: rest => simp

theorem readValue_eq_none_iff (a : BusAnswer) : readValue a = none ↔
    a = .nack ∨ a = .absent ∨ ∃ n bs, a = .transfer n bs ∧ (n < 1 ∨ bs.length < 2) := by
  cases a with
  | nack | absent => simp
  | transfer n bs => simp [readValue_transfer_eq_none_iff]

/-! ## No transaction after a failed one (20_memory.md R56) -/

/-- Only the last transaction of a command can have failed. -/
theorem not_failed_before_last {i : Instr} {s t : State} (h : Ends i s t) :
    ∃ new, t.busLog = s.busLog ++ new ∧ ∀ tr ∈ new.dropLast, tr.failed = false := by
  cases h with
  | pure | notConfigured | notCalibrated | illegal | calPrecondition | derived =>
    exact ⟨[], (List.append_nil _).symm, nofun⟩
  | calReadFail d u _ hu _ _ _ _ hw | calMismatch d u _ _ hu _ _ _ _ hw | calCommit d u _ _ hu _ _ _ _ hw =>
    subst hu
    refine ⟨_, List.append_assoc .., fun tr htr => ?_⟩
    obtain rfl := List.mem_singleton.1 htr
    simp [write_failed, hw]
  | _ => exact ⟨_, rfl, nofun⟩

theorem eq_nil_of_failed {i : Instr} {s t : State} {sent after : List BusTransaction} {tr : BusTransaction}
    (h : exec i s = .next t) (hlog : t.busLog = s.busLog ++ sent ++ tr :: after) (hf : tr.failed = true) :
    after = [] := by
  obtain ⟨new, hnew, hok⟩ := not_failed_before_last (ends_of_exec h)
  obtain rfl : new = sent ++ tr :: after := by
    rwa [hnew, List.append_assoc, List.append_cancel_left_eq] at hlog
  by_contra ha
  have hmem : tr ∈ (sent ++ tr :: after).dropLast := by
    rw [List.dropLast_append_of_ne_nil (List.cons_ne_nil _ _), List.dropLast_cons_of_ne_nil ha]
    simp
  exact absurd hf (ne_true_of_eq_false (hok tr hmem))

/-- A failed transaction ends its command with TRANSPORT. -/
theorem err_of_failed {i : Instr} {s t : State} {sent after : List BusTransaction} {tr : BusTransaction}
    (h : exec i s = .next t) (hlog : t.busLog = s.busLog ++ sent ++ tr :: after) (hf : tr.failed = true) :
    t.err = .transport := by
  obtain ⟨new, hnew, ho⟩ := busOutcome_of_ends (ends_of_exec h)
  obtain rfl : new = sent ++ tr :: after := by
    rwa [hnew, List.append_assoc, List.append_cancel_left_eq] at hlog
  exact ho.transport_iff.2 ⟨tr, by simp, hf⟩

/-- Settles O12: the answers by their shape, and a failed transaction by its place in what the command made. -/
theorem shortTransfersFailWithoutRetry : Obligations.ShortTransfersFailWithoutRetry :=
  ⟨writeOk_iff, readValue_eq_none_iff,
    fun _ _ _ _ _ _ h hlog hf => ⟨eq_nil_of_failed h hlog hf, err_of_failed h hlog hf⟩⟩

/-! ## The table of STATE (10_state.md, section 4) -/

theorem facade_of_cfgApply {a b v m : Code} {s t : State} (h : exec (.cfgApply a b v m) s = .next t) :
    (t.err = .none ∧ t.facade = if s.facade = .uninit then .configured else s.facade) ∨
      (t.err = .transport ∧ t.facade = s.facade) := by
  rw [exec_cfgApply] at h
  cases h
  rcases State.applyConfig_cases (s := s) (packConfig a b v m) with ⟨-, he⟩ | ⟨-, he⟩ <;> rw [he]
  · exact .inr ⟨rfl, rfl⟩
  · exact .inl ⟨rfl, facadeConfigured_eq_ite s.facade⟩

/-- CALIBRATE from a configured block, by the error it ends with. -/
theorem facade_of_calibrate {s t : State} (h : exec .calibrate s = .next t) (hf : s.facade ≠ .uninit) :
    (t.err = .calPrecondition ∧ t.facade = s.facade) ∨
      ((t.err = .transport ∨ t.err = .calVerifyMismatch) ∧ t.facade = .configured) ∨
      (t.err = .none ∧ t.facade = .calibrated) := by
  have hends := ends_of_exec h
  cases he : t.err with
  | none => exact .inr (.inr ⟨rfl, (commit_of_ends hends he).2.2.2⟩)
  | transport => exact .inr (.inl ⟨.inl rfl, (calibrate_failure_of_ends hends (.inl he)).1⟩)
  | calVerifyMismatch => exact .inr (.inl ⟨.inr rfl, (calibrate_failure_of_ends hends (.inr he)).1⟩)
  | calPrecondition =>
    have hi : ¬ Invalidates .calibrate t := not_invalidates_of_err nofun (he ▸ nofun) (he ▸ nofun)
    exact .inl ⟨rfl, (keeps_of_ends_error hends (he ▸ nofun) hi).1⟩
  | illegalCmd => exact absurd he (err_ne_illegalCmd_of_ends hends rfl)
  | notConfigured => exact absurd ((err_notConfigured_iff h).1 he).2 hf
  | notCalibrated => exact absurd ((err_notCalibrated_iff h).1 he).1 nofun

theorem facade_of_other {i : Instr} {s t : State} (h : Ends i s t) (ha : ∀ a b v m, i ≠ .cfgApply a b v m)
    (hc : i ≠ .calibrate) (hr : i ≠ .reset) : t.facade = s.facade := by
  cases h with
  | applyFail _ _ _ _ hi | applyOk _ _ _ _ _ hi => exact absurd hi (ha _ _ _ _)
  | resetFail hi | resetOk _ hi => exact absurd hi hr
  | calWriteFail _ _ hi | calReadFail _ _ _ _ hi | calMismatch _ _ _ _ _ hi | calCommit _ _ _ _ _ hi =>
    exact absurd hi hc
  | _ => rfl

/-- Settles O46: one lemma for each row of the table. -/
theorem stateChangesOnlyAsTheTableSays : Obligations.StateChangesOnlyAsTheTableSays := by
  intro i s t h
  refine ⟨?_, ?_, ?_, facade_of_other (ends_of_exec h)⟩
  · rintro a b v m rfl
    exact facade_of_cfgApply h
  · rintro rfl
    by_cases hf : s.facade = .uninit
    · rw [exec_calibrate_notConfigured hf] at h
      cases h
      exact .inl ⟨hf, rfl, hf⟩
    · exact .inr ((facade_of_calibrate h hf).imp (⟨hf, ·⟩) (.imp (⟨hf, ·⟩) (⟨hf, ·⟩)))
  · rintro rfl
    exact facade_of_exec_reset h

end Sys2Proof.Proofs
end

section
/-! PROOFS. The derived laws of the numbers (40_config_packer.md, section 1; 41_calibration.md, section 2;
42_decoder.md, section 1) and the bring-up that uses them (70_reset_and_hazards.md, section 2). -/

namespace Sys2Proof.Proofs

open Sys2Proof.Machine

/-! ## The packed words (40_config_packer.md R103) -/

theorem packConfig_inj {a b v m a' b' v' m' : Code} (h : packConfig a b v m = packConfig a' b' v' m') :
    a = a' ∧ b = b' ∧ v = v' ∧ m = m' := by
  rw [packConfig_eq_cfgImm, packConfig_eq_cfgImm] at h
  refine ⟨?_, ?_, ?_, ?_⟩
  · rw [← avgField_cfgImm a b v m, h, avgField_cfgImm]
  · rw [← vbusctField_cfgImm a b v m, h, vbusctField_cfgImm]
  · rw [← vshctField_cfgImm a b v m, h, vshctField_cfgImm]
  · rw [← modeField_cfgImm a b v m, h, modeField_cfgImm]

theorem packConfig_le (a b v m : Code) : (packConfig a b v m).toNat ≤ 0x0FFF := by
  rw [packConfig_toNat]
  omega

/-- A word up to 0x0FFF is packed from its own fields. -/
theorem packConfig_fields {w : Half} (h : w.toNat ≤ 0x0FFF) :
    packConfig (w.extractLsb' 9 3) (w.extractLsb' 6 3) (w.extractLsb' 3 3) (w.extractLsb' 0 3) = w := by
  apply BitVec.eq_of_toNat_eq
  rw [packConfig_toNat]
  simp only [extractLsb'_toNat_eq_div_mod]
  omega

/-- Settles O15: the codes are the fields of their packed word, and a word up to 0x0FFF has no other bits. -/
theorem packConfigIsInjective : Obligations.PackConfigIsInjective :=
  ⟨fun _ _ _ _ _ _ _ _ => packConfig_inj,
    fun a b v m => ⟨packConfig_le a b v m, (resetWord_ne_packConfig a b v m).symm⟩,
    fun _ h => ⟨_, _, _, _, packConfig_fields h⟩⟩

/-! ## When the calibration value is zero (41_calibration.md R126) -/

/-- No quotient of the numerator is a multiple of 2^16 but 0: `51_200_000 = 781 × 65536 + 16384`, and the remainder is
more than any divisor with so large a quotient. -/
theorem calFullOf_eq_zero_of_mod {r k : Nat} (h : 1 ≤ k * r) (hmod : calFullOf r k % 65536 = 0) :
    calFullOf r k = 0 := by
  obtain ⟨hle, hlt, -⟩ := calibrationValueIsTheFloorQuotient r k h
  obtain ⟨m, hm⟩ := Nat.dvd_of_mod_eq_zero hmod
  rw [hm] at hle hlt ⊢
  generalize k * r = n at *
  rw [Nat.mul_assoc] at hle
  rw [Nat.add_mul, Nat.mul_assoc, Nat.one_mul] at hlt
  obtain rfl | hpos := Nat.eq_zero_or_pos m
  · rfl
  · have hn : n ≤ m * n := Nat.le_mul_of_pos_left n hpos
    omega

section
variable {r i : Nat} (hr : 1 ≤ r) (hi : 1 ≤ i)
include hr hi

theorem deriveCal_z_iff_calFullOf : (deriveCal r i).z = true ↔ calFullOf r (currentLsbOf i) = 0 := by
  have hkr : 1 ≤ currentLsbOf i * r := Nat.mul_pos (currentLsbOf_pos hi) hr
  rw [deriveCal_z_iff, BitVec.toNat_eq, deriveCal_c_toNat]
  exact ⟨calFullOf_eq_zero_of_mod hkr, fun h => by rw [h]; rfl⟩

theorem deriveCal_z_iff_lt : (deriveCal r i).z = true ↔ 51200000 < currentLsbOf i * r := by
  have hle := le_calFullOf_iff (n := 1) (Nat.mul_pos (currentLsbOf_pos hi) hr)
  rw [deriveCal_z_iff_calFullOf hr hi]
  omega

theorem deriveCal_ovf_of_z (hz : (deriveCal r i).z = true) : (deriveCal r i).ovf = false := by
  rw [← Bool.not_eq_true, deriveCal_ovf_iff, (deriveCal_z_iff_calFullOf hr hi).1 hz]
  decide

end

/-- c_full does not grow with r or k (41_calibration.md R133). -/
theorem calFullOf_antitone {r r' k k' : Nat} (hr : 1 ≤ r) (hk : 1 ≤ k) (hrr : r ≤ r') (hkk : k ≤ k') :
    calFullOf r' k' ≤ calFullOf r k :=
  Nat.div_le_div_left (Nat.mul_le_mul hkk hrr) (Nat.mul_pos hk hr)

/-- Settles O22: CALZ means that c_full itself is 0 (`calFullOf_eq_zero_of_mod`); k and p do not mention r. -/
theorem zeroCalibrationAndMonotonicityLaws : Obligations.ZeroCalibrationAndMonotonicityLaws :=
  ⟨fun r i hr hi => ⟨deriveCal_z_iff r i, deriveCal_z_iff_lt hr hi, deriveCal_ovf_of_z hr hi⟩,
    fun _ _ _ => ⟨rfl, rfl⟩, fun _ _ _ _ => calFullOf_antitone⟩

/-! ## The decoded values in RES (42_decoder.md R164, R165) -/

theorem toInt_toResult {x : Int} (hlo : -2 ^ 63 ≤ x) (hhi : x < 2 ^ 63) : (toResult x).toInt = x := by
  rw [toResult, BitVec.toInt_ofInt, Int.bmod_eq_of_le (by omega) (by omega)]

section
variable (raw : Half)

theorem toInt_toResult_decodeBus : (toResult (decodeBus raw)).toInt = decodeBus raw := by
  have h := decodeBus_bounds raw
  exact toInt_toResult (by omega) (by omega)

theorem toInt_toResult_decodeShunt : (toResult (decodeShunt raw)).toInt = decodeShunt raw := by
  have h := decodeShunt_bounds raw
  exact toInt_toResult (by omega) (by omega)

/-- Any 16-bit LSB, not those of a valid cache alone. -/
theorem toInt_toResult_decodeCurrent {k : Nat} (hk : k < 2 ^ 16) :
    (toResult (decodeCurrent raw k)).toInt = decodeCurrent raw k := by
  obtain ⟨hlo, hhi⟩ := sample_toInt_bounds raw
  have hk : (k : Int) ≤ 65535 := by omega
  have hupper : raw.toInt * k ≤ 32767 * 65535 := mul_le_mul hhi hk (Int.natCast_nonneg k) (by decide)
  have hlower : -raw.toInt * k ≤ 32768 * 65535 := mul_le_mul (by omega) hk (Int.natCast_nonneg k) (by decide)
  rw [Int.neg_mul] at hlower
  rw [decodeCurrent_eq]
  exact toInt_toResult (by omega) (by omega)

theorem toInt_toResult_decodePower {p : Nat} (hp : p < 2 ^ 16) :
    (toResult (decodePower raw p)).toInt = decodePower raw p := by
  have hupper : raw.toNat * p ≤ 65535 * 65535 :=
    Nat.mul_le_mul (Nat.le_of_lt_succ raw.isLt) (Nat.le_of_lt_succ hp)
  rw [decodePower_eq, ← Int.natCast_mul]
  exact toInt_toResult (by omega) (by omega)

end

/-- Settles O27: each decoded value is far within 63 bits. -/
theorem decodedValuesFitTheResultRegister : Obligations.DecodedValuesFitTheResultRegister :=
  ⟨toInt_toResult_decodeBus, toInt_toResult_decodeShunt, fun raw _ => toInt_toResult_decodeCurrent raw,
    fun raw _ => toInt_toResult_decodePower raw⟩

/-- The bus voltage against the rejected formula, by the remainder that formula drops. -/
theorem decodeBus_eq_rejected_add (raw : Half) :
    decodeBus raw = 1000 * ((raw.toNat : Int) + (raw.toNat / 4 : Nat)) + 250 * (raw.toNat % 4 : Nat) := by
  rw [decodeBus_eq]
  omega

/-- Settles O28: RES holds the decoded value, which is `decodeBus_eq_rejected_add`. -/
theorem rejectedBusFormulaIsNotTheOneComputed : Obligations.RejectedBusFormulaIsNotTheOneComputed := by
  intro raw s
  have hres := (toInt_toResult_decodeBus raw).trans (decodeBus_eq_rejected_add raw)
  refine ⟨_, rfl, hres, ?_⟩
  rw [State.succeed_res, hres]
  omega

/-! ## The bring-up (70_reset_and_hazards.md, section 2) -/

/-- The bytes of a value, as a read returns them, give the value back. -/
theorem readValue_bytes (c : Half) :
    readValue (.transfer 1 [c.extractLsb' 8 8, c.extractLsb' 0 8]) = some c := by
  rw [readValue_pair le_rfl, Option.some.injEq]
  apply BitVec.eq_of_toNat_eq
  rw [bytesValue_toNat, extractLsb'_toNat_eq_div_mod, extractLsb'_toNat_eq_div_mod]
  omega

/-- The answers of a bus that acknowledges the two writes and reads `c` back. -/
def bringUpAnswers (c : Half) : List BusAnswer :=
  [.transfer 3 [], .transfer 3 [], .transfer 1 [c.extractLsb' 8 8, c.extractLsb' 0 8]]

/-- `s` as the host and the bus bring it up: the operands on the ports and the answers of a good bus to come. -/
def bringUpStart (s : State) (r i : Word) : State :=
  { s with opa := r, opb := i, busScript := bringUpAnswers (deriveCal r.toNat i.toNat).c }

/-- CFG_APPLY, when the next answer acknowledges its write. -/
theorem exec_cfgApply_ok {s : State} {rest : List BusAnswer} (hs : s.busScript = .transfer 3 [] :: rest)
    (a b v m : Code) : ∃ t, exec (.cfgApply a b v m) s = .next t ∧ t.err = .none ∧ t.facade ≠ .uninit ∧
      t.opa = s.opa ∧ t.opb = s.opb ∧ t.busScript = rest := by
  have hok : writeOk (s.answer (writeRequest 0x00#8 (packConfig a b v m))) = true := by
    rw [State.answer_of_script hs]
    rfl
  refine ⟨_, rfl, ?_⟩
  rw [State.applyConfig_ok hok]
  refine ⟨rfl, ?_, rfl, rfl, congrArg List.tail hs⟩
  rw [State.succeed_facade, State.setFacade_facade]
  cases s.facade <;> decide

/-- CALIBRATE from a configured block, when the next answers acknowledge its write and read the value back. -/
theorem exec_calibrate_ok {s : State} (hf : s.facade ≠ .uninit) (ha : s.opa ≠ 0#32) (hb : s.opb ≠ 0#32)
    (hs : s.busScript = (bringUpAnswers s.derived.c).tail) :
    ∃ u, exec .calibrate s = .next u ∧ u.err = .none ∧ u.facade = .calibrated ∧
      u.curLsb = s.derived.k ∧ u.pwrLsb = s.derived.p := by
  have hw : writeOk (s.answer (writeRequest 0x05#8 s.derived.c)) = true := by
    rw [State.answer_of_script hs]
    rfl
  have hr : readValue ((s.transact (writeRequest 0x05#8 s.derived.c)).answer (readRequest 0x05#8)) =
      some s.derived.c := by
    rw [State.answer_of_script (congrArg List.tail hs)]
    exact readValue_bytes s.derived.c
  refine ⟨_, exec_calibrate_writes hf ha hb, ?_⟩
  rw [State.writeCal_ok (s := s.setFlags s.derived.z s.derived.ovf) hw, setFlags_transact,
    State.verifyCal_match (s := (s.transact _).setFlags s.derived.z s.derived.ovf) hr]
  exact ⟨rfl, rfl, rfl, rfl⟩

/-- Settles O55: the good bus of `bringUpAnswers` makes both commands succeed, and the LSBs committed are those
derived. -/
theorem bringUpReachesCalibratedDecodes : Obligations.BringUpReachesCalibratedDecodes := by
  intro s a b v m r i hr hi
  obtain ⟨t, ht, hterr, htf, hopa, hopb, hscript⟩ := exec_cfgApply_ok (s := bringUpStart s r i) rfl a b v m
  have hd : t.derived = deriveCal r.toNat i.toNat := by
    rw [State.derived_eq, hopa, hopb]
    rfl
  obtain ⟨u, hu, huerr, huf, hk, hp⟩ :=
    exec_calibrate_ok htf (hopa.trans_ne hr) (hopb.trans_ne hi) (by rw [hscript, hd]; rfl)
  have hk : u.currentLsb = currentLsbOf i.toNat := by
    rw [State.currentLsb, hk, hd, deriveCal_k_toNat i.isLt]
  have hp : u.powerLsb = 25 * currentLsbOf i.toNat := by
    rw [State.powerLsb, hp, hd, deriveCal_p_toNat i.isLt]
  refine ⟨_, t, u, ht, hterr, hu, huerr, huf, fun raw => ?_, fun raw => ?_⟩
  · rw [exec_decCurrent huf, hk]
    rfl
  · rw [exec_decPower huf, hp]
    rfl

end Sys2Proof.Proofs
end

section
/-! PROOFS. The assembler on mnemonics and values (30_encoding.md, section 6): each form of a line, with operands in
range, with an operand out of range, and that what it assembles is a legal command. -/

namespace Sys2Proof.Proofs

open Sys2Proof.Machine

/-! ## Legal lines -/

/-- A line's word is a command, with values for OPA and OPB exactly for the F-CAL commands (30_encoding.md R78). -/
def Legal (a : Assembled) : Prop :=
  ∃ i, decode a.word = .ok i ∧ (a.operands.isSome = true ↔ i = .calDerive ∨ i = .calibrate)

theorem legal_assembled {i : Instr} (hwf : i.wellFormed = true) (hd : i ≠ .calDerive) (hc : i ≠ .calibrate) :
    Legal (assembled i) :=
  ⟨i, decodeOfEncodeIsTheCommand i hwf, iff_of_false nofun (not_or.2 ⟨hd, hc⟩)⟩

theorem assemblesTo_assembled {i : Instr} (hwf : i.wellFormed = true) : AssemblesTo (some (assembled i)) i none :=
  ⟨encode i, decodeOfEncodeIsTheCommand i hwf, rfl⟩

/-! ## Lines with codes -/

theorem asmCode_range {x : Int} {c : Code} (h : asmCode x = some c) : 0 ≤ x ∧ x ≤ 7 := by
  by_contra hn
  rw [asmCode_none hn] at h
  cases h

section
variable {mk : Code → Code → Code → Code → Instr}

theorem asmCfg_some {a b v m : Int} {ca cb cv cm : Code} (ha : asmCode a = some ca) (hb : asmCode b = some cb)
    (hv : asmCode v = some cv) (hm : asmCode m = some cm) :
    asmCfg mk [a, b, v, m] = some (assembled (mk ca cb cv cm)) := by
  simp only [asmCfg, ha, hb, hv, hm]

theorem asmCfg_none {a b v m : Int}
    (h : ¬((0 ≤ a ∧ a ≤ 7) ∧ (0 ≤ b ∧ b ≤ 7) ∧ (0 ≤ v ∧ v ≤ 7) ∧ (0 ≤ m ∧ m ≤ 7))) :
    asmCfg mk [a, b, v, m] = none := by
  simp only [asmCfg]
  split
  next ha hb hv hm => exact absurd ⟨asmCode_range ha, asmCode_range hb, asmCode_range hv, asmCode_range hm⟩ h
  next => rfl

theorem legal_of_asmCfg {xs : List Int} {a : Assembled} (h : asmCfg mk xs = some a)
    (hmk : ∀ a b v m, Legal (assembled (mk a b v m))) : xs.length = 4 ∧ Legal a := by
  unfold asmCfg at h
  split at h
  · split at h
    · cases h
      exact ⟨rfl, hmk _ _ _ _⟩
    · cases h
  · cases h

end

/-! ## Lines with a resistance and a current -/

theorem asmWord_range {x : Int} {w : Word} (h : asmWord x = some w) : 0 ≤ x ∧ x < 2 ^ 32 := by
  by_contra hn
  rw [asmWord_none hn] at h
  cases h

section
variable {i : Instr}

theorem asmCal_some {r x : Int} {wr wx : Word} (hr : asmWord r = some wr) (hx : asmWord x = some wx) :
    asmCal i [r, x] = some ⟨encode i, some (wr, wx)⟩ := by
  simp only [asmCal, hr, hx]

theorem asmCal_none {r x : Int} (h : ¬((0 ≤ r ∧ r < 2 ^ 32) ∧ (0 ≤ x ∧ x < 2 ^ 32))) : asmCal i [r, x] = none := by
  simp only [asmCal]
  split
  next hr hx => exact absurd ⟨asmWord_range hr, asmWord_range hx⟩ h
  next => rfl

theorem legal_of_asmCal {xs : List Int} {a : Assembled} (h : asmCal i xs = some a)
    (hi : i = .calDerive ∨ i = .calibrate) : xs.length = 2 ∧ Legal a := by
  have hwf : i.wellFormed = true := by rcases hi with rfl | rfl <;> rfl
  unfold asmCal at h
  split at h
  · split at h
    · cases h
      exact ⟨rfl, i, decodeOfEncodeIsTheCommand i hwf, iff_of_true rfl hi⟩
    · cases h
  · cases h

end

/-! ## Lines with a sample -/

section
variable {mk : Half → Instr}

theorem asmSample_some {x : Int} {raw : Half} (h : asmRaw x = some raw) :
    asmSample mk [x] = some (assembled (mk raw)) := by
  rw [asmSample, h, Option.map_some]

theorem asmSample_none {x : Int} (h : ¬(-32768 ≤ x ∧ x ≤ 65535)) : asmSample mk [x] = none := by
  rw [asmSample, asmRaw_none h, Option.map_none]

theorem legal_of_asmSample {xs : List Int} {a : Assembled} (h : asmSample mk xs = some a)
    (hmk : ∀ raw, Legal (assembled (mk raw))) : xs.length = 1 ∧ Legal a := by
  unfold asmSample at h
  split at h
  · obtain ⟨raw, -, rfl⟩ := Option.map_eq_some_iff.1 h
    exact ⟨rfl, hmk raw⟩
  · cases h

end

/-! ## Lines with an offset -/

/-- The values that are an offset of the map. -/
theorem mem_offsets_iff {x : Int} :
    x ∈ [0, 1, 2, 3, 4, 5, 6, 7, 255] ↔ ∃ r : SensorReg, (r.offset.toNat : Int) = x := by
  constructor
  · intro h
    fin_cases h
    exacts [⟨.configuration, rfl⟩, ⟨.shuntVoltage, rfl⟩, ⟨.busVoltage, rfl⟩, ⟨.power, rfl⟩, ⟨.current, rfl⟩,
      ⟨.calibration, rfl⟩, ⟨.maskEnable, rfl⟩, ⟨.alertLimit, rfl⟩, ⟨.manufacturerId, rfl⟩]
  · rintro ⟨r, rfl⟩
    cases r <;> decide

/-- What is taken for an offset is the offset of a register of the map. -/
theorem offset_of_asmOff {x : Int} {off : Byte} (h : asmOff x = some off) :
    ∃ r : SensorReg, r.offset = off ∧ (r.offset.toNat : Int) = x := by
  unfold asmOff at h
  split at h
  next hx =>
    cases h
    obtain ⟨hlo, hhi, hmap⟩ := hx
    obtain ⟨r, hr⟩ := exists_offset_eq_of_mem ((offsetInMap_iff_mem _).1 hmap)
    refine ⟨r, hr, ?_⟩
    rw [hr, BitVec.toNat_ofInt]
    omega
  next => cases h

theorem asmReg_none {x : Int} (h : x ∉ [0, 1, 2, 3, 4, 5, 6, 7, 255]) : asmReg [x] = none := by
  rw [asmReg, Option.map_eq_none_iff, Option.eq_none_iff_forall_ne_some]
  intro off hoff
  obtain ⟨r, -, hr⟩ := offset_of_asmOff hoff
  exact h (mem_offsets_iff.2 ⟨r, hr⟩)

/-- The read of a register of the map is a command. -/
theorem wellFormed_rdRaw_offset (r : SensorReg) : (Instr.rdRaw r.offset).wellFormed = true := by
  cases r <;> rfl

theorem legal_rdRaw_offset (r : SensorReg) : Legal (assembled (.rdRaw r.offset)) :=
  legal_assembled (wellFormed_rdRaw_offset r) nofun nofun

theorem legal_of_asmReg {xs : List Int} {a : Assembled} (h : asmReg xs = some a) : xs.length = 1 ∧ Legal a := by
  unfold asmReg at h
  split at h
  · obtain ⟨off, hoff, rfl⟩ := Option.map_eq_some_iff.1 h
    obtain ⟨r, rfl, -⟩ := offset_of_asmOff hoff
    exact ⟨rfl, legal_rdRaw_offset r⟩
  · cases h

/-! ## Lines without operands -/

theorem legal_of_asmBare {i : Instr} {xs : List Int} {a : Assembled} (h : asmBare i xs = some a)
    (hi : Legal (assembled i)) : xs.length = 0 ∧ Legal a := by
  unfold asmBare at h
  split at h
  · cases h
    exact ⟨rfl, hi⟩
  · cases h

/-! ## All mnemonics -/

theorem legal_of_assemble {m : Mnemonic} {xs : List Int} {a : Assembled} (h : assemble m xs = some a) :
    xs.length = operandCount m ∧ Legal a := by
  cases m with
  | cfgPack | cfgApply | configure => exact legal_of_asmCfg h fun _ _ _ _ => legal_assembled rfl nofun nofun
  | calDerive => exact legal_of_asmCal h (.inl rfl)
  | calibrate => exact legal_of_asmCal h (.inr rfl)
  | decBus | decShunt | decCurrent | decPower =>
    exact legal_of_asmSample h fun _ => legal_assembled rfl nofun nofun
  | rdRaw => exact legal_of_asmReg h
  | rdBus | rdShunt | rdCurrent | rdPower | reset | ping | rdCfg | rdCal | rdMask | rdAlert | rdId | rdBusRaw
  | rdShuntRaw | rdCurrentRaw | rdPowerRaw => exact legal_of_asmBare h (legal_assembled rfl nofun nofun)

/-- Settles O56: each form of a line by its lemmas, and every word by the round trip of the encoding. -/
theorem assembledLinesAreLegalCommands : Obligations.AssembledLinesAreLegalCommands := by
  refine ⟨fun m xs a => legal_of_assemble, fun a b v m => ⟨?_, fun h => ⟨asmCfg_none h, asmCfg_none h⟩⟩,
    fun x => ⟨fun h => ?_, fun h => ⟨asmSample_none h, asmSample_none h, asmSample_none h, asmSample_none h⟩⟩,
    fun x => ⟨fun h => ?_, asmReg_none⟩, fun r i => ⟨?_, fun h => ⟨asmCal_none h, asmCal_none h⟩⟩,
    assemblesTo_assembled rfl, assemblesTo_assembled rfl, assemblesTo_assembled rfl, assemblesTo_assembled rfl,
    assemblesTo_assembled rfl, assemblesTo_assembled rfl⟩
  · rintro ⟨ha, hb, hv, hm⟩
    obtain ⟨ca, hca, hac⟩ := asmCode_some ha
    obtain ⟨cb, hcb, hbc⟩ := asmCode_some hb
    obtain ⟨cv, hcv, hvc⟩ := asmCode_some hv
    obtain ⟨cm, hcm, hmc⟩ := asmCode_some hm
    refine ⟨ca, cb, cv, cm, hac, hbc, hvc, hmc, ?_, ?_⟩ <;>
      rw [assemble, asmCfg_some hca hcb hcv hcm] <;> exact assemblesTo_assembled rfl
  · obtain ⟨raw, hraw, hx⟩ := asmRaw_some h
    refine ⟨raw, hx, ?_, ?_, ?_, ?_⟩ <;>
      rw [assemble, asmSample_some hraw] <;> exact assemblesTo_assembled rfl
  · obtain ⟨r, rfl⟩ := mem_offsets_iff.1 h
    refine ⟨r.offset, rfl, ?_⟩
    rw [assemble_rdRaw_offset]
    exact assemblesTo_assembled (wellFormed_rdRaw_offset r)
  · rintro ⟨hr, hi⟩
    obtain ⟨wr, hwr, hrw⟩ := asmWord_some hr
    obtain ⟨wi, hwi, hiw⟩ := asmWord_some hi
    exact ⟨wr, wi, hrw, hiw, ⟨_, decodeOfEncodeIsTheCommand .calDerive rfl, asmCal_some hwr hwi⟩,
      _, decodeOfEncodeIsTheCommand .calibrate rfl, asmCal_some hwr hwi⟩

end Sys2Proof.Proofs
end

section
/-! PROOFS. The assembler on text (30_encoding.md, section 6; log entry 15): how joined operands are cut and read
again, and how a line is its mnemonic and its operands. -/

namespace Sys2Proof.Proofs

open Sys2Proof.Machine

/-! ## Operand texts -/

/-- A text that nothing in a line would cut: what a written number is (`spells_mem`). -/
def Unbroken (t : List Char) : Prop := t ≠ [] ∧ ∀ c ∈ t, c ∉ [' ', '\t', ',', ';']

section
variable {t : List Char} (ht : Unbroken t)
include ht

theorem Unbroken.isBlank_eq_false : ∀ c ∈ t, isBlank c = false := by
  intro c hc
  have hb := ht.2 c hc
  simp only [List.mem_cons, not_or] at hb
  simp [isBlank, hb]

theorem Unbroken.comma_not_mem : ',' ∉ t := fun h => absurd (by decide) (ht.2 _ h)

theorem Unbroken.semicolon_not_mem : ';' ∉ t := fun h => absurd (by decide) (ht.2 _ h)

/-- Blanks before it are trimmed and nothing else. -/
theorem Unbroken.trimBlanks_append {bs : List Char} (hb : ∀ c ∈ bs, isBlank c = true) : trimBlanks (bs ++ t) = t :=
  Machine.trimBlanks_append hb (fun c hc => ht.isBlank_eq_false c (List.mem_of_mem_head? hc))
    fun c hc => ht.isBlank_eq_false c (List.mem_of_mem_getLast? hc)

end

/-! ## Joined operands -/

theorem joinOperands_ne_nil {t : List Char} (ht : t ≠ []) (ts : List (List Char)) : joinOperands (t :: ts) ≠ [] := by
  cases ts <;> simp [joinOperands, ht]

/-- Joined texts begin with the first text. -/
theorem head?_joinOperands {t : List Char} (ht : t ≠ []) (ts : List (List Char)) :
    (joinOperands (t :: ts)).head? = t.head? := by
  cases ts with
  | nil => rfl
  | cons u us => exact List.head?_append_of_ne_nil _ ht

/-- Joined texts end with the last text. -/
theorem getLast?_joinOperands {ts : List (List Char)} (h : ∀ t ∈ ts, t ≠ []) :
    ∀ c ∈ (joinOperands ts).getLast?, ∃ t ∈ ts, c ∈ t := by
  match ts with
  | [] => nofun
  | [t] => exact fun c hc => ⟨t, List.mem_singleton_self t, List.mem_of_mem_getLast? hc⟩
  | t :: u :: us =>
    intro c hc
    have hne : joinOperands (u :: us) ≠ [] := joinOperands_ne_nil (h u (by simp)) us
    rw [joinOperands, List.getLast?_append_of_ne_nil _ (by simp), List.getLast?_cons_cons,
      List.getLast?_cons_of_ne_nil hne] at hc
    obtain ⟨v, hv, hcv⟩ := getLast?_joinOperands (fun v hv => h v (List.mem_cons_of_mem _ hv)) c hc
    exact ⟨v, List.mem_cons_of_mem _ hv, hcv⟩

theorem semicolon_not_mem_joinOperands {ts : List (List Char)} (h : ∀ t ∈ ts, Unbroken t) :
    ';' ∉ joinOperands ts := by
  match ts with
  | [] => nofun
  | [t] => exact (h t (List.mem_singleton_self t)).semicolon_not_mem
  | t :: u :: us =>
    have hus : ';' ∉ joinOperands (u :: us) :=
      semicolon_not_mem_joinOperands fun v hv => h v (List.mem_cons_of_mem _ hv)
    simp [joinOperands, (h t List.mem_cons_self).semicolon_not_mem, hus]

/-- Enough fuel to cut joined texts apart. -/
theorem length_le_joinOperands (ts : List (List Char)) : ts.length ≤ (joinOperands ts).length + 1 := by
  match ts with
  | [] => simp
  | [t] => simp
  | t :: u :: us =>
    have h := length_le_joinOperands (u :: us)
    simp only [joinOperands, List.length_cons, List.length_append] at h ⊢
    omega

/-- Joined numbers, with blanks before the first, are cut apart and read as their values. -/
theorem parseOperands_joinOperands {bs : List Char} {os : List (List Char × Int)} {fuel : Nat}
    (hb : ∀ c ∈ bs, isBlank c = true) (hne : os ≠ []) (hos : ∀ o ∈ os, Spells o.1 o.2) (hfuel : os.length ≤ fuel) :
    parseOperands (splitCommas fuel (bs ++ joinOperands (os.map Prod.fst))) = some (os.map Prod.snd) := by
  induction os generalizing bs fuel with
  | nil => exact absurd rfl hne
  | cons o os ih =>
    obtain ⟨fuel, rfl⟩ := Nat.exists_eq_add_of_le' (Nat.le_trans (Nat.succ_pos os.length) hfuel)
    have ho : Spells o.1 o.2 := hos o List.mem_cons_self
    have ht : Unbroken o.1 := spells_mem ho
    have hcomma : ',' ∉ bs ++ o.1 := by
      rw [List.mem_append, not_or]
      exact ⟨fun h => absurd (hb _ h) (by decide), ht.comma_not_mem⟩
    cases os with
    | nil =>
      simp [joinOperands, splitCommas, cutAt_of_not_mem hcomma, parseOperands, ht.trimBlanks_append hb,
        parseNumber_spells ho]
    | cons p ps =>
      have hrest := ih (bs := [' ']) (fuel := fuel) (by simp [isBlank]) (List.cons_ne_nil p ps)
        (fun q hq => hos q (List.mem_cons_of_mem o hq)) (Nat.le_of_succ_le_succ hfuel)
      simp only [List.map_cons, joinOperands, List.cons_append, List.nil_append] at hrest ⊢
      rw [← List.append_assoc, splitCommas, cutAt_append _ hcomma]
      simp only [parseOperands, ht.trimBlanks_append hb, parseNumber_spells ho, hrest]

section
variable {os : List (List Char × Int)} (hne : os ≠ []) (hos : ∀ o ∈ os, Spells o.1 o.2)
include hos

theorem unbroken_of_spells : ∀ t ∈ os.map Prod.fst, Unbroken t := by
  intro t ht
  obtain ⟨o, ho, rfl⟩ := List.mem_map.1 ht
  exact spells_mem (hos o ho)

theorem getLast?_joinOperands_not_blank : ∀ c ∈ (joinOperands (os.map Prod.fst)).getLast?, isBlank c = false := by
  have hun := unbroken_of_spells hos
  intro c hc
  obtain ⟨t, ht, hct⟩ := getLast?_joinOperands (fun t ht => (hun t ht).1) c hc
  exact (hun t ht).isBlank_eq_false c hct

include hne

theorem joinOperands_spells_ne_nil : joinOperands (os.map Prod.fst) ≠ [] := by
  obtain ⟨o, os, rfl⟩ := List.exists_cons_of_ne_nil hne
  exact joinOperands_ne_nil (spells_mem (hos o List.mem_cons_self)).1 _

/-- Joined numbers do not begin with a blank. -/
theorem head?_joinOperands_not_blank : ∀ c ∈ (joinOperands (os.map Prod.fst)).head?, isBlank c = false := by
  obtain ⟨o, os, rfl⟩ := List.exists_cons_of_ne_nil hne
  have ht : Unbroken o.1 := spells_mem (hos o List.mem_cons_self)
  rw [List.map_cons, head?_joinOperands ht.1]
  exact fun c hc => ht.isBlank_eq_false c (List.mem_of_mem_head? hc)

/-- Blanks and joined numbers after a mnemonic are read as the values of the numbers. -/
theorem operandValues_joinOperands {bs : List Char} (hb : ∀ c ∈ bs, isBlank c = true) :
    operandValues (bs ++ joinOperands (os.map Prod.fst)) = some (os.map Prod.snd) := by
  have htrim := trimBlanks_append hb (head?_joinOperands_not_blank hne hos) (getLast?_joinOperands_not_blank hos)
  have hfuel := length_le_joinOperands (os.map Prod.fst)
  rw [List.length_map] at hfuel
  have hparse := parseOperands_joinOperands (bs := []) nofun hne hos hfuel
  rw [operandValues, htrim]
  split
  next hnil => exact absurd hnil (joinOperands_spells_ne_nil hne hos)
  next hcons => rwa [← hcons]

end

/-! ## Lines -/

/-- A line is read from what stands before its first semicolon. -/
theorem assembleLine_congr {line line' : List Char} (h : (cutAt ';' line).1 = (cutAt ';' line').1) :
    assembleLine (String.ofList line) = assembleLine (String.ofList line') := by
  simp only [assembleLine, String.toList_ofList, h]

/-- A line without a comment that is a mnemonic, and then nothing or blanks and operands. -/
theorem assembleLine_eq {m : Mnemonic} {rest : List Char} {xs : List Int} (hsemi : ';' ∉ rest)
    (hblank : ∀ c ∈ rest.head?, isBlank c = true) (hlast : ∀ c ∈ rest.getLast?, isBlank c = false)
    (hxs : operandValues rest = some xs) : assembleLine (String.ofList (m.name.toList ++ rest)) = assemble m xs := by
  obtain ⟨hne, hname⟩ := mnemonic_name_mem m
  have hcut : ';' ∉ m.name.toList ++ rest := by
    rw [List.mem_append, not_or]
    exact ⟨fun h => (hname _ h).2 rfl, hsemi⟩
  have htrim : trimBlanks (m.name.toList ++ rest) = m.name.toList ++ rest := by
    refine trimBlanks_append (bs := []) (cs := m.name.toList ++ rest) nofun (fun c hc => ?_) fun c hc => ?_
    · rw [List.head?_append_of_ne_nil _ hne] at hc
      exact (hname c (List.mem_of_mem_head? hc)).1
    · rw [List.getLast?_append, Option.mem_def, Option.or_eq_some_iff] at hc
      exact hc.elim (hlast c) fun ⟨_, hc⟩ => (hname c (List.mem_of_mem_getLast? hc)).1
  have hhead : (m.name.toList ++ rest).takeWhile (fun c => !isBlank c) = m.name.toList := by
    rw [List.takeWhile_append_of_pos fun c hc => by rw [(hname c hc).1]; rfl]
    cases rest with
    | nil => simp
    | cons c cs => simp [hblank c rfl]
  simp only [assembleLine, String.toList_ofList, cutAt_of_not_mem hcut, htrim, hhead, List.drop_left, mnemonicOf_name,
    hxs]

/-- Settles O58: a mnemonic alone and a mnemonic with operands are lines of `assembleLine_eq`, a comment is cut off, and
what assembles does so by the mnemonic and the values read. -/
theorem linesOfTextAreReadAsTheirMnemonicAndNumbers : Obligations.LinesOfTextAreReadAsTheirMnemonicAndNumbers := by
  refine ⟨fun m => ?_, fun m blanks os hbne hb hne hos => ?_, fun line comment h => ?_, fun line a h => ?_⟩
  · have hline := assembleLine_eq (m := m) (rest := []) nofun nofun nofun rfl
    rwa [List.append_nil, String.ofList_toList] at hline
  · have hblank : ∀ c ∈ blanks, isBlank c = true := fun c hc => by rw [hb c hc]; rfl
    rw [List.append_assoc]
    refine assembleLine_eq ?_ (fun c hc => ?_) (fun c hc => ?_) (operandValues_joinOperands hne hos hblank)
    · rw [List.mem_append, not_or]
      exact ⟨fun h => absurd (hblank _ h) (by decide), semicolon_not_mem_joinOperands (unbroken_of_spells hos)⟩
    · rw [List.head?_append_of_ne_nil _ hbne] at hc
      exact hblank c (List.mem_of_mem_head? hc)
    · rw [List.getLast?_append_of_ne_nil _ (joinOperands_spells_ne_nil hne hos)] at hc
      exact getLast?_joinOperands_not_blank hos c hc
  · exact assembleLine_congr (by rw [cutAt_append comment h, cutAt_of_not_mem h])
  · simp only [assembleLine] at h
    split at h
    · exact ⟨_, _, h⟩
    · cases h

end Sys2Proof.Proofs
end
